-- ==== Sys2Proof/Word.lean ====
section
/-! DEFINITION. The widths of the block: bytes, 32-bit words, 40-bit event words and 4-bit diagnostic codes. -/

namespace Sys2Proof

/-- One byte: a persisted byte, or a byte at the output sink (R50). -/
abbrev Byte := BitVec 8

/-- 32 bits: a timestamp in milliseconds, a tempo in tenths of a BPM, a period in microseconds (R23, R26, R28). -/
abbrev Word := BitVec 32

/-- One event as the port `ev` carries it (R70, R214). -/
abbrev EventWord := BitVec 40

/-- A diagnostic code (R201). -/
abbrev DiagCode := BitVec 4

end Sys2Proof
end

