-- ==== Sys2Proof/Syntax.lean ====
section
/-! DEFINITION. The five events of the block's interface, the raw fields of an event word, who issues an event, and the
reasons an event is refused for. -/

namespace Sys2Proof

/-- The events (R5, R73): one constructor per row of spec/opcode_table.json. -/
inductive Instr where
  /-- BOOT (R190): power-on load, validation, first `applyTempo`, timer enable. -/
  | boot
  /-- TICK (R102): a poll iteration with no tap, at `now` milliseconds. -/
  | tick (now : Word)
  /-- TAP (R106): a poll iteration with a debounced tap at `now` milliseconds. -/
  | tap (now : Word)
  /-- UTICK (R160): one microsecond of timer time. -/
  | utick
  /-- ISR (R163): the periodic-interrupt handler. -/
  | isr
  deriving DecidableEq, Repr

/-- The one format, EV (R70): an event code and an operand. -/
structure EvFields where
  op  : BitVec 8
  arg : Word
  deriving DecidableEq, Repr

/-- The agents that issue steps (R6). ENV supplies what the events of the others carry and issues none of its own (R73). -/
inductive Agent where
  | main
  | irq
  | timer
  | env
  deriving DecidableEq, Repr

/-- Why an event is refused (R76, R77). The reason is not stored: a refusal writes the bit REFUSED alone. -/
inductive RefuseReason where
  /-- The event code is none of 0x01 to 0x05 (R76). -/
  | reservedOp
  /-- BOOT, UTICK or ISR with an operand that is not 0 (R76). -/
  | nonzeroArg
  /-- A well-formed event that is not legal in the current state (R77). -/
  | notEnabled
  deriving DecidableEq, Repr

end Sys2Proof
end

