-- ==== Sys2Proof/WellFormed.lean ====
section
/-! DEFINITION. The two checks an event word passes to name an event (R74, R76), on its raw fields. An `Instr` needs no
check: its operand is a 32-bit word by its type (R71). -/

namespace Sys2Proof

/-- The event code is one of 0x01 to 0x05 (R74). -/
def EvFields.opKnown (f : EvFields) : Bool :=
  decide (1 ≤ f.op.toNat) && decide (f.op.toNat ≤ 5)

/-- TICK and TAP take any operand; the other events take 0 (R70, R76). -/
def EvFields.argLegal (f : EvFields) : Bool :=
  decide (f.op.toNat = 2) || decide (f.op.toNat = 3) || decide (f.arg.toNat = 0)

/-- Both checks. -/
def EvFields.wellFormed (f : EvFields) : Bool :=
  f.opKnown && f.argLegal

end Sys2Proof
end

