-- ==== Sys2Proof/Decode.lean ====
section
/-! DEFINITION. The decoder of event words, total on all 40-bit words (R74), and after it the encoder, both from the
table of R73. -/

namespace Sys2Proof

/-- The fields of an event word: OP in bits 39..32, ARG in bits 31..0 (R70). -/
def splitWord (w : EventWord) : EvFields :=
  { op := w.extractLsb' 32 8, arg := w.extractLsb' 0 32 }

/-- The event word with the given fields (R70). -/
def joinWord (f : EvFields) : EventWord :=
  (f.op ++ f.arg : BitVec (8 + 32))

/-- An event that takes no operand, or its refusal for a non-zero ARG (R76). -/
def noOperand (arg : Word) (i : Instr) : Except RefuseReason Instr :=
  if arg = 0 then .ok i else .error .nonzeroArg

/-- The event codes of R73; every other code is reserved (R76). -/
def decodeFields (f : EvFields) : Except RefuseReason Instr :=
  if f.op = 0x01 then noOperand f.arg .boot
  else if f.op = 0x02 then .ok (.tick f.arg)
  else if f.op = 0x03 then .ok (.tap f.arg)
  else if f.op = 0x04 then noOperand f.arg .utick
  else if f.op = 0x05 then noOperand f.arg .isr
  else .error .reservedOp

/-- "A decoder reads 40 bits and has read one event" (R70, R74). -/
def decode (w : EventWord) : Except RefuseReason Instr :=
  decodeFields (splitWord w)

/-- The fields of an event's word (R70, R73). -/
def Instr.fields : Instr → EvFields
  | .boot => { op := 0x01, arg := 0 }
  | .tick now => { op := 0x02, arg := now }
  | .tap now => { op := 0x03, arg := now }
  | .utick => { op := 0x04, arg := 0 }
  | .isr => { op := 0x05, arg := 0 }

/-- The word of an event (R70, R73). -/
def encode (i : Instr) : EventWord :=
  joinWord i.fields

/-- The event in the table's numbering of bits: an event is one 40-bit word, so bit 0 of the table is bit 0 of the word. -/
def decodeTableWord (nbits w : Nat) : Option Instr :=
  match decode (BitVec.ofNat 40 (w % 2 ^ nbits)) with
  | .ok i => some i
  | .error _ => none

end Sys2Proof
end

