-- ==== Sys2Proof/Config.lean ====
section
/-! DEFINITION. The configuration: the constants of R7, the parameters of R7 and R8 as one structure with this hardware's
values, the constraints of R9 on other values, and the OPEN parameters and the ENV draw as constants with no body. -/

namespace Sys2Proof.Config

/-- `NUM_TAPS`, N (R7). R20 gives the tap array four entries, so N is no parameter here (DESIGN CHOICE, log 7). -/
def numTaps : Nat := 4

/-- `K_MS`, milliseconds times tenths in a minute (R7). -/
def kMs : Nat := 600000

/-- `K_US`, microseconds times tenths in a minute (R7). -/
def kUs : Nat := 600000000

/-- `CLOCK_BYTE` (R7), hardwired (R38). -/
def clockByte : Byte := 0xF8

/-- The configuration constants that the spec speaks of at more than one value (R7, R8, R9). They are an argument of every
operation, "a parameter of the step relation, not state" (R20). -/
structure Params where
  /-- `PPB`, pulses per beat. -/
  ppb : Nat
  /-- `MINIMUM_BPM`, in tenths. -/
  minimumBpm : Nat
  /-- `MAXIMUM_BPM`, in tenths. -/
  maximumBpm : Nat
  /-- `DEFAULT_BPM`, in tenths. -/
  defaultBpm : Nat
  /-- `BLINK_DURATION`, in pulses. -/
  blinkDuration : Nat
  /-- `MAXIMUM_TAP_INTERVAL`, in milliseconds (R112). -/
  maximumTapInterval : Nat
  /-- `CLAMP_TAP_BPM` (R134). -/
  clampTapBpm : Bool
  /-- `PERSIST_ENABLE` (R191, R135). -/
  persistEnable : Bool
  /-- `BOOT_PERSIST_WRITE` (R190). -/
  bootPersistWrite : Bool
  /-- `DEBUG_MODE` (R165). -/
  debugMode : Bool
  /-- `TIMER_RESTART_ON_APPLY` (R137). -/
  timerRestartOnApply : Bool
  /-- `PULSE_COUNTER_RESET` (R34). -/
  pulseCounterReset : Nat
  deriving DecidableEq, Repr

/-- This hardware's values (R7, R8). -/
def hw : Params where
  ppb := 24
  minimumBpm := 400
  maximumBpm := 3000
  defaultBpm := 1200
  blinkDuration := 4
  maximumTapInterval := 1500
  clampTapBpm := false
  persistEnable := true
  bootPersistWrite := true
  debugMode := false
  timerRestartOnApply := true
  pulseCounterReset := 0

/-- The constraints of R9. No rule is claimed for values outside them. -/
abbrev Params.Legal (p : Params) : Prop :=
  2 ≤ numTaps ∧ 1 ≤ p.ppb ∧ p.ppb ≤ 32 ∧ p.blinkDuration < p.ppb ∧
  1 ≤ p.minimumBpm ∧ p.minimumBpm ≤ p.defaultBpm ∧ p.defaultBpm ≤ p.maximumBpm ∧ p.maximumBpm ≤ 65535 ∧
  kMs / p.minimumBpm ≤ p.maximumTapInterval ∧ p.maximumTapInterval ≤ kMs ∧
  3 * p.maximumTapInterval < 2 ^ 32

/-- FREE VALUE (log 5): the byte the persistence store presents in a slot at BOOT, an ENV draw, "any pair of bytes" (R41).
Indexed by the number of power-ons and the slot, so that every run draws anew (R232). -/
opaque pstoreDraw : Nat → Nat → Byte

/-- OPEN (R8, log 8): the level of the LED output when LED_ON = 1. -/
opaque ledOnLevel : Byte

/-- OPEN (R8, log 8): the level of the LED output when LED_ON = 0. -/
opaque ledOffLevel : Byte

/-- OPEN (R8, log 8): the polarity of the LED pin. No rule depends on it (R36). -/
opaque ledActiveLow : Bool

/-- OPEN (R8, log 8): `PERSIST_ADDR_MSB` and `PERSIST_ADDR_LSB`, the store address of slot 0 and of slot 1 (R55). -/
opaque persistAddr : Nat → Nat

end Sys2Proof.Config
end

