-- ==== Sys2Proof/Machine/State.lean ====
section
/-! DEFINITION. The state of the block, "exactly these fields" of R20, with the environment's persistence store and two
fields of the model's own; the reasons a step can stop; and the state after power-on reset (R44). -/

namespace Sys2Proof.Machine

/-- The tap array `TAPS[0..3]`, four 32-bit timestamps (R23). -/
structure Taps where
  t0 : Word
  t1 : Word
  t2 : Word
  t3 : Word
  deriving DecidableEq, Repr

/-- The two slots of the persistence store (R50). -/
inductive Slot where
  /-- Slot 0. -/
  | msb
  /-- Slot 1. -/
  | lsb
  deriving DecidableEq, Repr

/-- The bytes the persistence store is known to present, by slot number: addresses strictly rising. A slot that is not
listed holds no known byte; what BOOT reads there is the ENV draw (R41, log 5). -/
abbrev Memory := List Host.Cell

/-- The state record (R20), the environment's store (R41), and the model's own `events` and `powerCycle`. -/
structure State where
  /-- `TAPS[0..3]` (R23). -/
  taps : Taps
  /-- `TAP_COUNT` (R24). -/
  tapCount : BitVec 3
  /-- `BPM` (R26). -/
  bpm : Word
  /-- `TMR_PERIOD` (R28). -/
  tmrPeriod : Word
  /-- `TMR_ELAPSED` (R29). -/
  tmrElapsed : Word
  /-- `TMR_EN` (R30). -/
  tmrEn : Bool
  /-- `TMR_MASK` (R38, R138). -/
  tmrMask : Bool
  /-- `IRQ_PENDING` (R31). -/
  irqPending : Bool
  /-- `PULSE_COUNTER` (R34). -/
  pulseCounter : BitVec 5
  /-- `LED_ON` (R35). -/
  ledOn : Bool
  /-- `BOOTED` (R33). -/
  booted : Bool
  /-- `FAULT_OVERRUN` (R32), sticky. -/
  faultOverrun : Bool
  /-- `REFUSED` (R42), sticky. -/
  refused : Bool
  /-- `SINK_TRACE` (R40), oldest first. -/
  sinkTrace : List Byte
  /-- `PWRITE_TRACE` (R40), oldest first. -/
  pwriteTrace : List (Slot × Byte)
  /-- `DIAG_TRACE` (R40, R201), oldest first. -/
  diagTrace : List DiagCode
  /-- `PSTORE[0..1]` (R41), the environment's. -/
  pstore : Memory
  /-- The model's own: the event words still to be presented at port `ev`, the next one first (R22, R214, log 1). -/
  events : List EventWord
  /-- The model's own: how many power-on resets came before this run (R232, log 6). -/
  powerCycle : Nat
  deriving DecidableEq, Repr

/-- The block has no exception, no trap and no access fault (R51, R200), so no step stops with a fault (log 11). The
spec's one model fault, OVERRUN, is the sticky bit `faultOverrun` of a next state (R204). -/
inductive Fault where
  deriving DecidableEq, Repr

/-- Why a step gives no next state. -/
inductive Refusal where
  /-- Raised by `exec` for an event with no meaning in the model. No arm raises it. Safe: the model stops where the
  hardware goes on. -/
  | notModelled (mnemonic : String)
  /-- Raised by `step` when the event trace has ended (R241): no event is presented, so there is nothing to step.
  Safe (log 2). -/
  | noEvent
  deriving DecidableEq, Repr

/-- Power-on reset (R44, R230) under the configuration `p`. TAPS are unspecified there; the zeros are the model's
(DESIGN CHOICE, log 4). No slot of PSTORE is known, so each reads as the ENV draw (log 5). -/
def State.resetWith (p : Config.Params) : State where
  taps := { t0 := 0, t1 := 0, t2 := 0, t3 := 0 }
  tapCount := 0
  bpm := 0
  tmrPeriod := 0
  tmrElapsed := 0
  tmrEn := false
  tmrMask := false
  irqPending := false
  pulseCounter := BitVec.ofNat 5 p.pulseCounterReset
  ledOn := false
  booted := false
  faultOverrun := false
  refused := false
  sinkTrace := []
  pwriteTrace := []
  diagTrace := []
  pstore := []
  events := []
  powerCycle := 0

/-- Power-on reset of this hardware (R44). -/
def State.reset : State := State.resetWith Config.hw

end Sys2Proof.Machine
end

