-- ==== Sys2Proof/Machine/Ops.lean ====
section
/-! DEFINITION. The named operations over registers, the tap array, the persistence store and the output traces (R12, R55,
R56), refusal and overrun, the interrupt's entry and return (R207, R208), and what the environment does from outside. -/

namespace Sys2Proof.Machine

/-! ## Arithmetic -/

/-- `sub32(a, b)` = (a - b) mod 2^32 (R11). -/
def sub32 (a b : Word) : Word := a - b

/-- A number as a 32-bit word: the value mod 2^32 (R11). -/
def toWord (n : Nat) : Word := BitVec.ofNat 32 n

/-! ## The tap array (R56) -/

/-- `TAPS[i]`: one whole entry. The index is two bits, so every access is in range (R51). -/
def Taps.read (t : Taps) (i : BitVec 2) : Word :=
  if i = 0 then t.t0 else if i = 1 then t.t1 else if i = 2 then t.t2 else t.t3

/-- `TAPS[i] <- v`: one whole entry, the others kept. -/
def Taps.write (t : Taps) (i : BitVec 2) (v : Word) : Taps :=
  if i = 0 then { t with t0 := v } else if i = 1 then { t with t1 := v }
  else if i = 2 then { t with t2 := v } else { t with t3 := v }

/-! ## The persistence store (R50, R55) -/

/-- Slot 0 is the MSB, slot 1 the LSB (R52). -/
def Slot.addr : Slot → Nat
  | .msb => 0
  | .lsb => 1

/-- The byte listed for a slot, if there is one. -/
def Memory.read : Memory → Nat → Option Byte
  | [], _ => none
  | (b, v) :: m, a => if a = b then some v else Memory.read m a

/-- List a byte for a slot, in its place, replacing the one listed before. -/
def Memory.write : Memory → Nat → Byte → Memory
  | [], a, v => [(a, v)]
  | (b, u) :: m, a, v =>
    if a < b then (a, v) :: (b, u) :: m
    else if a = b then (a, v) :: m
    else (b, u) :: Memory.write m a v

/-- Every listed address is above `lo` and below 2, strictly rising. -/
def Memory.risesAbove : Option Nat → Memory → Bool
  | _, [] => true
  | lo, (a, _) :: m => decide (a < 2) && decide (∀ b ∈ lo, b < a) && Memory.risesAbove (some a) m

/-- The canonical form of PSTORE: strictly rising slots, slots 0 and 1 alone. An unlisted slot holds no fixed byte, so no
entry can repeat what an unlisted slot reads as (log 5). -/
def Memory.wf (m : Memory) : Bool := Memory.risesAbove none m

/-- `MemRead(PSTORE, slot, 1)` (R55): the byte the store presents, no side effect. Where none is listed it is the ENV draw
of this power cycle (R41), a free value. -/
def State.storeByte (s : State) (slot : Slot) : Byte :=
  match Memory.read s.pstore slot.addr with
  | some v => v
  | none => Config.pstoreDraw s.powerCycle slot.addr

/-! ## Register writes: each field has one home and is written here -/

def State.setTapCount (s : State) (c : BitVec 3) : State := { s with tapCount := c }
def State.writeTap (s : State) (i : BitVec 2) (v : Word) : State := { s with taps := s.taps.write i v }
def State.setBpm (s : State) (v : Word) : State := { s with bpm := v }
def State.setTmrPeriod (s : State) (v : Word) : State := { s with tmrPeriod := v }
def State.setTmrElapsed (s : State) (v : Word) : State := { s with tmrElapsed := v }
def State.setTmrEn (s : State) (b : Bool) : State := { s with tmrEn := b }
def State.setTmrMask (s : State) (b : Bool) : State := { s with tmrMask := b }
def State.setIrqPending (s : State) (b : Bool) : State := { s with irqPending := b }
def State.setPulseCounter (s : State) (c : BitVec 5) : State := { s with pulseCounter := c }
def State.setLedOn (s : State) (b : Bool) : State := { s with ledOn := b }
def State.setBooted (s : State) (b : Bool) : State := { s with booted := b }

/-! ## Outputs (R12, R40, R58) -/

/-- `emit SINK(b)`: always accepted (R58). -/
def State.emitSink (s : State) (b : Byte) : State := { s with sinkTrace := s.sinkTrace ++ [b] }

/-- `emit PWRITE(slot, b)`, which is all that `MemWrite(PSTORE, slot, 1, b)` does (R55): the write is not read back (R41). -/
def State.memWrite (s : State) (slot : Slot) (b : Byte) : State := { s with pwriteTrace := s.pwriteTrace ++ [(slot, b)] }

/-- `emit DIAG(code)` (R201). -/
def State.emitDiag (s : State) (c : DiagCode) : State := { s with diagTrace := s.diagTrace ++ [c] }

/-- TIMEOUT (R201). -/
def diagTimeout : DiagCode := 1
/-- ZERO_INTERVAL (R201). -/
def diagZeroInterval : DiagCode := 2
/-- BAD_PERSISTED (R201). -/
def diagBadPersisted : DiagCode := 3
/-- OVERRUN (R201). -/
def diagOverrun : DiagCode := 4

/-! ## Overrun, refusal, interrupt -/

/-- `raise Fault(OVERRUN)`: the sticky bit (R12, R204). The machine goes on. -/
def State.raiseOverrun (s : State) : State := { s with faultOverrun := true }

/-- `refuse(reason)`: REFUSED <- 1 and no other field changes, whatever the reason (R76, R77). The machine goes on. -/
def State.refuse (s : State) (_reason : RefuseReason) : State := { s with refused := true }

/-- Entering the interrupt (R207): nothing is saved, the pending bit is cleared, and the one handler runs. -/
def State.enterIrq (s : State) : State := s.setIrqPending false

/-- Returning from the interrupt (R208): nothing was saved, so nothing is restored. -/
def State.returnIrq (s : State) : State := s

/-- An event as a step of the machine: its body where it is enabled (R61), a refusal where it is not (R77). Either way
there is a next state (R202). -/
def whenEnabled (enabled : Bool) (body : State → State) (s : State) : Host.Outcome State Fault Refusal :=
  .next (if enabled then body s else s.refuse .notEnabled)

/-! ## The environment -/

/-- The environment presents one more event word, before those that still wait (port `ev`, R214). -/
def State.presentEvent (s : State) (w : EventWord) : State := { s with events := w :: s.events }

/-- The next event word and the state without it; none at the end of the trace (R241). -/
def fetchEvent (s : State) : Option (EventWord × State) :=
  match s.events with
  | [] => none
  | w :: ws => some (w, { s with events := ws })

/-- The store presents its two bytes (R231 step 3; port `pstore_rd`). -/
def State.withStore (s : State) (msb lsb : Byte) : State :=
  { s with pstore := Memory.write (Memory.write s.pstore Slot.msb.addr msb) Slot.lsb.addr lsb }

/-- A further power-on reset (R232): a new run from R44 and a new draw for PSTORE. The events still to come are the
environment's and stay. No event does this (log 17). -/
def State.powerOn (s : State) : State :=
  { State.reset with events := s.events, powerCycle := s.powerCycle + 1 }

end Sys2Proof.Machine
end

