-- ==== Sys2Proof/Machine/Operands.lean ====
section
/-! DEFINITION. What the events read: the newest tap and its gap to `now` (R104), the span and average of a full buffer
(R131), and the persisted 16-bit value (R52). The operand `now` itself is ARG as it is (R71). -/

namespace Sys2Proof.Machine

/-- The index of the entry the next tap goes to (R108); it is `TAP_COUNT`, which is below N where it is used. -/
def State.freeIndex (s : State) : BitVec 2 := s.tapCount.setWidth 2

/-- `TAPS[TAP_COUNT - 1]` (R104), read where 0 < TAP_COUNT < N alone. -/
def State.lastTap (s : State) : Word := s.taps.read ((s.tapCount - 1).setWidth 2)

/-- The gap from the newest tap to `now`, mod 2^32 (R104). -/
def State.gapTo (s : State) (now : Word) : Word := sub32 now s.lastTap

/-- `sub32(TAPS[N-1], TAPS[0])` (R131). -/
def State.tapSpan (s : State) : Word := sub32 (s.taps.read 3) (s.taps.read 0)

/-- The average interval of a full buffer, `span / (N - 1)`, truncating (R131). -/
def State.tapAverage (s : State) : Nat := s.tapSpan.toNat / (Config.numTaps - 1)

/-- The persisted BPM, big-endian: slot 0 in bits 15..8 (R52). -/
def State.persistedBpm (s : State) : BitVec 16 :=
  (s.storeByte .msb ++ s.storeByte .lsb : BitVec (8 + 8))

end Sys2Proof.Machine
end

