-- ==== Sys2Proof/Machine/Flags.lean ====
section
/-! DEFINITION. The block has no flag register (R37). These are the conditions its rules test: FULL and ACTIVE (R37), the
expiry of the timer (R161), and which event is enabled (R61, R77). -/

namespace Sys2Proof.Machine

/-- FULL: TAP_COUNT = N (R37). -/
def State.full (s : State) : Bool := decide (s.tapCount.toNat = Config.numTaps)

/-- TAP_COUNT < N: there is a free entry (R108). -/
def State.hasRoom (s : State) : Bool := decide (s.tapCount.toNat < Config.numTaps)

/-- ACTIVE: 0 < TAP_COUNT < N (R37). -/
def State.active (s : State) : Bool := decide (0 < s.tapCount.toNat) && s.hasRoom

/-- The newest tap is too old: ACTIVE, and a gap strictly above `MAXIMUM_TAP_INTERVAL` (R104). -/
def State.timedOut (p : Config.Params) (s : State) (now : Word) : Bool :=
  s.active && decide (p.maximumTapInterval < (s.gapTo now).toNat)

/-- One more microsecond reaches the period: TMR_ELAPSED + 1, exact, is at least TMR_PERIOD (R161). -/
def State.expires (s : State) : Bool := decide (s.tmrPeriod.toNat ≤ s.tmrElapsed.toNat + 1)

/-- The persisted value lies in the validity window, both ends included (R191). -/
def inWindow (p : Config.Params) (v : BitVec 16) : Bool :=
  decide (p.minimumBpm ≤ v.toNat) && decide (v.toNat ≤ p.maximumBpm)

/-- Which events are enabled (R61, R77). -/
def enabled : Instr → State → Bool
  | .boot, s => !s.booted
  | .tick _, s => s.booted
  | .tap _, s => s.booted
  | .utick, _ => true
  | .isr, s => s.irqPending

end Sys2Proof.Machine
end

