-- ==== Sys2Proof/Machine/TempoModel.lean ====
section
/-! DEFINITION. The tempo model (R130 to R140): the persistence write, `applyTempo` with its critical section, and the
recomputation. Sums and quotients are exact numbers, narrowed where they are stored; under R9 none exceeds 32 bits (R130). -/

namespace Sys2Proof.Machine

/-- `persistWrite(bpm)`: MSB, then LSB, of bpm[15:0] (R139, R53). -/
def persistWrite (bpm : Word) (s : State) : State :=
  (s.memWrite .msb (bpm.extractLsb' 8 8)).memWrite .lsb (bpm.extractLsb' 0 8)

/-- `(K_US / bpm) / PPB`, two truncating divisions (R135). -/
def periodOf (p : Config.Params) (bpm : Nat) : Nat := Config.kUs / bpm / p.ppb

/-- Restart the timer's phase where `TIMER_RESTART_ON_APPLY` is true (R137). -/
def restartTimer (p : Config.Params) (s : State) : State :=
  if p.timerRestartOnApply then s.setTmrElapsed 0 else s

/-- The critical section of `applyTempo` (R138): the mask is set, the period and the phase are written, the mask is cleared. -/
def reprogramTimer (p : Config.Params) (period : Word) (s : State) : State :=
  (restartTimer p ((s.setTmrMask true).setTmrPeriod period)).setTmrMask false

/-- `applyTempo(bpm, persist)` (R135). -/
def applyTempo (p : Config.Params) (bpm : Word) (persist : Bool) (s : State) : State :=
  let s := s.setBpm bpm
  let s := reprogramTimer p (toWord (periodOf p bpm.toNat)) s
  if persist && p.persistEnable then persistWrite bpm s else s

/-- The clamp of a tap-derived BPM, where `CLAMP_TAP_BPM` is true (R131, R134). -/
def clampBpm (p : Config.Params) (bpm : Nat) : Nat :=
  if p.clampTapBpm then max p.minimumBpm (min p.maximumBpm bpm) else bpm

/-- The tempo a full buffer gives, before the clamp: K_MS / avg, or none where avg = 0 or the quotient is 0 (R131, R133). -/
def bpmOfAverage (avg : Nat) : Option Nat :=
  if avg = 0 then none
  else if Config.kMs / avg = 0 then none
  else some (Config.kMs / avg)

/-- `recompute()` (R131): a tempo is applied and persisted, or DIAG(2) alone is emitted (R133). -/
def recompute (p : Config.Params) (s : State) : State :=
  match bpmOfAverage s.tapAverage with
  | none => s.emitDiag diagZeroInterval
  | some bpm => applyTempo p (toWord (clampBpm p bpm)) true s

end Sys2Proof.Machine
end

