-- ==== Sys2Proof/Machine/Boot.lean ====
section
/-! DEFINITION. The boot-time load (R190 to R193): `loadPersisted` and the event BOOT. -/

namespace Sys2Proof.Machine

/-- The value `loadPersisted()` returns (R191): the stored one if it is in the window, else the default. -/
def loadedBpm (p : Config.Params) (s : State) : Word :=
  if p.persistEnable && inWindow p s.persistedBpm then s.persistedBpm.setWidth 32 else toWord p.defaultBpm

/-- What `loadPersisted()` does to the state (R191): DIAG(3) when a stored value is rejected. -/
def loadDiag (p : Config.Params) (s : State) : State :=
  if p.persistEnable && !inWindow p s.persistedBpm then s.emitDiag diagBadPersisted else s

/-- The body of BOOT (R190, R192): load, apply, enable the timer, note the boot. -/
def bootEvent (p : Config.Params) (s : State) : State :=
  ((applyTempo p (loadedBpm p s) p.bootPersistWrite (loadDiag p s)).setTmrEn true).setBooted true

/-- BOOT on this hardware (R190, R77). -/
def execBoot (s : State) : Host.Outcome State Fault Refusal :=
  whenEnabled (enabled .boot s) (bootEvent Config.hw) s

end Sys2Proof.Machine
end

