-- ==== Sys2Proof/Machine/PulseClock.lean ====
section
/-! DEFINITION. The pulse clock and the beat indicator (R160 to R168): `timerStep`, `ledUpdate`, and the events UTICK and
ISR. -/

namespace Sys2Proof.Machine

/-- An expiry (R161): the count restarts; the pending bit is set, or, where it was set already, the firing is lost and the
overrun is recorded (R204). -/
def expire (s : State) : State :=
  let s := s.setTmrElapsed 0
  if s.irqPending then s.raiseOverrun.emitDiag diagOverrun else s.setIrqPending true

/-- `timerStep()` (R161). TMR_ELAPSED + 1 is exact, so a count of 2^32 - 1, which no run reaches, expires too (log 12). -/
def timerStep (s : State) : State :=
  if s.expires then expire s else s.setTmrElapsed (toWord (s.tmrElapsed.toNat + 1))

/-- The body of UTICK (R160): nothing while the timer is off. -/
def utickEvent (_p : Config.Params) (s : State) : State :=
  if s.tmrEn then timerStep s else s

/-- `(PULSE_COUNTER + 1) mod PPB` (R164). -/
def nextPulse (p : Config.Params) (c : BitVec 5) : BitVec 5 :=
  BitVec.ofNat 5 ((c.toNat + 1) % p.ppb)

/-- `ledUpdate(c)` (R166): two tests, the second after the first. -/
def ledUpdate (p : Config.Params) (c : BitVec 5) (s : State) : State :=
  let s := if c.toNat = 0 then s.setLedOn true else s
  if c.toNat = p.blinkDuration then s.setLedOn false else s

/-- The clock byte of one ISR, none in debug mode (R165). -/
def emitClock (p : Config.Params) (s : State) : State :=
  if p.debugMode then s else s.emitSink Config.clockByte

/-- The body of ISR (R163): acknowledge, emit, advance, update the LED, return. -/
def isrEvent (p : Config.Params) (s : State) : State :=
  let s := emitClock p s.enterIrq
  let s := s.setPulseCounter (nextPulse p s.pulseCounter)
  (ledUpdate p s.pulseCounter s).returnIrq

/-- UTICK on this hardware (R160): legal in every state (R77). -/
def execUtick (s : State) : Host.Outcome State Fault Refusal :=
  whenEnabled (enabled .utick s) (utickEvent Config.hw) s

/-- ISR on this hardware (R163, R77). -/
def execIsr (s : State) : Host.Outcome State Fault Refusal :=
  whenEnabled (enabled .isr s) (isrEvent Config.hw) s

end Sys2Proof.Machine
end

