-- ==== Sys2Proof/Machine/TapBuffer.lean ====
section
/-! DEFINITION. The tap buffer (R100 to R118): `checkTimeout`, `recordTap`, and the events TICK and TAP. -/

namespace Sys2Proof.Machine

/-- Clearing the buffer: the count, and nothing else (R110). -/
def clearTaps (s : State) : State := s.setTapCount 0

/-- `checkTimeout(now)` (R104). -/
def checkTimeout (p : Config.Params) (now : Word) (s : State) : State :=
  if s.timedOut p now then (clearTaps s).emitDiag diagTimeout else s

/-- The append of `recordTap`: the entry at TAP_COUNT, then the count (R108). -/
def appendTap (now : Word) (s : State) : State :=
  (s.writeTap s.freeIndex now).setTapCount (s.tapCount + 1)

/-- `recordTap(now)` (R108): append; when that fills the buffer, recompute and clear. With no room, no effect. -/
def recordTap (p : Config.Params) (now : Word) (s : State) : State :=
  if s.hasRoom then
    let s := appendTap now s
    if s.full then clearTaps (recompute p s) else s
  else s

/-- The body of TICK (R102). -/
def tickEvent (p : Config.Params) (now : Word) (s : State) : State := checkTimeout p now s

/-- The body of TAP (R106): the check first, then the append, with the same `now`. -/
def tapEvent (p : Config.Params) (now : Word) (s : State) : State :=
  recordTap p now (checkTimeout p now s)

/-- TICK on this hardware (R102, R77). -/
def execTick (now : Word) (s : State) : Host.Outcome State Fault Refusal :=
  whenEnabled (enabled (.tick now) s) (tickEvent Config.hw now) s

/-- TAP on this hardware (R106, R77). -/
def execTap (now : Word) (s : State) : Host.Outcome State Fault Refusal :=
  whenEnabled (enabled (.tap now) s) (tapEvent Config.hw now) s

end Sys2Proof.Machine
end

