-- ==== Sys2Proof/Machine/Dispatch.lean ====
section
/-! DEFINITION. One arm per event (R73). -/

namespace Sys2Proof.Machine

/-- The meaning of an event. -/
def exec (i : Instr) (s : State) : Host.Outcome State Fault Refusal :=
  match i with
  | .boot => Sys2Proof.Machine.execBoot s
  | .tick now => Sys2Proof.Machine.execTick now s
  | .tap now => Sys2Proof.Machine.execTap now s
  | .utick => Sys2Proof.Machine.execUtick s
  | .isr => Sys2Proof.Machine.execIsr s

end Sys2Proof.Machine
end

