-- ==== Sys2Proof/Machine/Step.lean ====
section
/-! DEFINITION. One step: the next event word is taken from the trace, decoded and run (R22, R60); a word that names no
event is refused (R76); at the end of the trace there is no step (R241). -/

namespace Sys2Proof.Machine

/-- What one event word does to the state from which it was taken (R74, R76). -/
def runWord (w : EventWord) (s : State) : Host.Outcome State Fault Refusal :=
  match decode w with
  | .ok i => exec i s
  | .error reason => .next (s.refuse reason)

/-- One step of the machine. -/
def step (s : State) : Host.Outcome State Fault Refusal :=
  match fetchEvent s with
  | none => .refused .noEvent
  | some (w, s') => runWord w s'

/-- The state in which the given word, in the table's numbering of bits, is the next event (log 1). -/
def State.withFetchWord (s : State) (nbits w : Nat) : State :=
  s.presentEvent (BitVec.ofNat 40 (w % 2 ^ nbits))

end Sys2Proof.Machine
end

