-- ==== Sys2Proof/Machine/Schedule.lean ====
section
/-! DEFINITION. Runs under any configuration (R20: the configuration is a parameter of the step relation) and the schedule
of R61: who issues an event, the effect of one event as a function, a run as a list of events, and which lists are
schedules of the block. -/

namespace Sys2Proof.Machine

/-- Who issues an event (R73). ENV acts through the operands and the store alone (R6). -/
def agentOf : Instr → Agent
  | .boot => .main
  | .tick _ => .main
  | .tap _ => .main
  | .utick => .timer
  | .isr => .irq

/-- The body of an enabled event under the configuration `p`. -/
def eventBody (p : Config.Params) : Instr → State → State
  | .boot, s => bootEvent p s
  | .tick now, s => tickEvent p now s
  | .tap now, s => tapEvent p now s
  | .utick, s => utickEvent p s
  | .isr, s => isrEvent p s

/-- One event under the configuration `p`: its body, or the refusal of R77. -/
def eventStep (p : Config.Params) (i : Instr) (s : State) : State :=
  if enabled i s then eventBody p i s else s.refuse .notEnabled

/-- A run: the events in the order of the trace (R22, R60). -/
def runEvents (p : Config.Params) : List Instr → State → State
  | [], s => s
  | i :: is, s => runEvents p is (eventStep p i s)

/-- The list is a schedule of the block: every event is enabled when its turn comes (R61). -/
def isSchedule (p : Config.Params) : List Instr → State → Bool
  | [], _ => true
  | i :: is, s => enabled i s && isSchedule p is (eventStep p i s)

/-- `UWAIT n`: n microseconds (R79). -/
def uwait (n : Nat) : List Instr := List.replicate n .utick

/-- `UWAIT_EAGER n` from the state `s`: n microseconds, with the handler at once after each that leaves IRQ_PENDING = 1
(R79). -/
def uwaitEager (p : Config.Params) : Nat → State → List Instr
  | 0, _ => []
  | n + 1, s =>
    let s1 := eventStep p .utick s
    if s1.irqPending then .utick :: .isr :: uwaitEager p n (eventStep p .isr s1)
    else .utick :: uwaitEager p n s1

/-- `TAPSEQ t0, d, k`: k taps from t0 on, d apart, each time mod 2^32 (R79). -/
def tapSeq (t0 d : Word) : Nat → List Instr
  | 0 => []
  | k + 1 => .tap t0 :: tapSeq (t0 + d) d k

end Sys2Proof.Machine
end

