-- ==== Sys2Proof/Machine/Assembler.lean ====
section
/-! DEFINITION. The spec's assembler lines (R78) and pseudo-instructions (R79), over lists of characters: a line gives an
item or is rejected, and a list of items gives the events, with the state threaded through since UWAIT_EAGER depends on it. -/

namespace Sys2Proof.Machine.Assembler

/-- One line: an event, or a pseudo-instruction. -/
inductive Item where
  | event (i : Instr)
  | uwait (n : Nat)
  | uwaitEager (n : Nat)
  | tapseq (t0 d : Word) (k : Nat)
  deriving DecidableEq, Repr

/-- A line without its comment: a semicolon starts one (R78). -/
def dropComment : List Char → List Char
  | [] => []
  | c :: cs => if c = ';' then [] else c :: dropComment cs

/-- A word read so far, put before the tokens that follow it. -/
def closeToken (word : List Char) (rest : List (List Char)) : List (List Char) :=
  if word.isEmpty then rest else word :: rest

/-- The tokens of a line: words between blanks, a comma a token of its own (DESIGN CHOICE, log 16). -/
def tokens : List Char → List Char → List (List Char)
  | word, [] => closeToken word []
  | word, c :: cs =>
    if c = ' ' then closeToken word (tokens [] cs)
    else if c = ',' then closeToken word ([','] :: tokens [] cs)
    else tokens (word ++ [c]) cs

/-- The value of a digit, decimal or hexadecimal in either case. -/
def digit (c : Char) : Option Nat :=
  let n := c.toNat
  if 48 ≤ n ∧ n ≤ 57 then some (n - 48)
  else if 97 ≤ n ∧ n ≤ 102 then some (n - 87)
  else if 65 ≤ n ∧ n ≤ 70 then some (n - 55)
  else none

/-- Digits of the given base, most significant first, after the value read so far. -/
def digits (base : Nat) : Nat → List Char → Option Nat
  | acc, [] => some acc
  | acc, c :: cs =>
    match digit c with
    | some d => if d < base then digits base (base * acc + d) cs else none
    | none => none

/-- A decimal number or a `0x` hexadecimal one (R78). -/
def number : List Char → Option Nat
  | [] => none
  | ['0', 'x'] => none
  | '0' :: 'x' :: cs => digits 16 0 cs
  | c :: cs => digits 10 0 (c :: cs)

/-- A number below 2^32 as a word (R78); a larger one is rejected, not reduced. -/
def wordNumber (cs : List Char) : Option Word :=
  match number cs with
  | some n => if n < 2 ^ 32 then some (BitVec.ofNat 32 n) else none
  | none => none

/-- The item of a line's tokens: the five event lines and the three pseudo-instructions (R78, R79). R79 gives the operands of
the pseudo-instructions no number form and no range: t0 and d of TAPSEQ are read as a time of R78 is, below 2^32, and a
larger one rejects the line, while n and k have no bound (DESIGN CHOICE, log 16). -/
def itemOf : List (List Char) → Option Item
  | [['B', 'O', 'O', 'T']] => some (.event .boot)
  | [['U', 'T', 'I', 'C', 'K']] => some (.event .utick)
  | [['I', 'S', 'R']] => some (.event .isr)
  | [['T', 'I', 'C', 'K'], t] => (wordNumber t).map fun now => .event (.tick now)
  | [['T', 'A', 'P'], t] => (wordNumber t).map fun now => .event (.tap now)
  | [['U', 'W', 'A', 'I', 'T'], n] => (number n).map .uwait
  | [['U', 'W', 'A', 'I', 'T', '_', 'E', 'A', 'G', 'E', 'R'], n] => (number n).map .uwaitEager
  | [['T', 'A', 'P', 'S', 'E', 'Q'], t, [','], d, [','], k] =>
    match wordNumber t, wordNumber d, number k with
    | some t0, some d, some k => some (.tapseq t0 d k)
    | _, _, _ => none
  | _ => none

/-- A line: nothing where it is blank or a comment alone, its item, or rejected. -/
def parseLine (line : List Char) : Option (List Item) :=
  match tokens [] (dropComment line) with
  | [] => some []
  | ts => (itemOf ts).map fun it => [it]

/-- The lines of a program, all of them good, or rejected. -/
def parseLines : List (List Char) → Option (List Item)
  | [] => some []
  | l :: ls =>
    match parseLine l, parseLines ls with
    | some xs, some ys => some (xs ++ ys)
    | _, _ => none

/-- The events of one item, from the state in which it stands (R79). -/
def expand (p : Config.Params) (s : State) : Item → List Instr
  | .event i => [i]
  | .uwait n => Sys2Proof.Machine.uwait n
  | .uwaitEager n => Sys2Proof.Machine.uwaitEager p n s
  | .tapseq t0 d k => tapSeq t0 d k

/-- The events of a program. -/
def expandAll (p : Config.Params) : List Item → State → List Instr
  | [], _ => []
  | it :: its, s => expand p s it ++ expandAll p its (runEvents p (expand p s it) s)

/-- The words of a program (R78: "A line assembles to the 40-bit word of rule R70"). -/
def assemble (p : Config.Params) (items : List Item) (s : State) : List EventWord :=
  (expandAll p items s).map encode

end Sys2Proof.Machine.Assembler
end

