-- ==== Sys2Proof/Machine/Ports.lean ====
section
/-! DEFINITION. What the ports of R214 show: the LED level, and what one step from a state to a next state puts out at the
sink, the store and the diagnostic port. -/

namespace Sys2Proof.Machine

/-- `led_level` (R36): one of the two OPEN levels. -/
def ledLevel (s : State) : Byte := if s.ledOn then Config.ledOnLevel else Config.ledOffLevel

/-- The bytes at `sink_byte`, `sink_valid` between two states of a run. -/
def sinkOut (s t : State) : List Byte := t.sinkTrace.drop s.sinkTrace.length

/-- The writes at `pstore_slot`, `pstore_wr`, `pstore_we` between two states of a run. -/
def storeOut (s t : State) : List (Slot × Byte) := t.pwriteTrace.drop s.pwriteTrace.length

/-- The same writes at the store's own addresses, `PERSIST_ADDR_MSB` and `PERSIST_ADDR_LSB` (R55), which are OPEN. -/
def placedStoreOut (s t : State) : List (Nat × Byte) :=
  (storeOut s t).map fun w => (Config.persistAddr w.1.addr, w.2)

/-- The codes at `diag`, `diag_valid` between two states of a run. -/
def diagOut (s t : State) : List DiagCode := t.diagTrace.drop s.diagTrace.length

end Sys2Proof.Machine
end

