-- ==== Sys2Proof/Safety.lean ====
section
/-! DEFINITION. The terms claims are stated in: a clean state, the contract on the taps, the relation of the two
timebases, and the invariants the block keeps (R45, R27, R114, R167). -/

namespace Sys2Proof.Safety

open Sys2Proof.Machine

/-- The milliseconds from `a` to `b`, mod 2^32 (R11), as a number. -/
def msBetween (a b : Word) : Nat := (b.toNat + 2 ^ 32 - a.toNat) % 2 ^ 32

/-- The newest tap in the buffer, for a count of 1, 2 or 3 (R104). -/
def newestTap (s : State) : Word :=
  if s.tapCount = 1 then s.taps.t0 else if s.tapCount = 2 then s.taps.t1 else s.taps.t2

/-- The sequence in the buffer is abandoned at `now` on this hardware: there is one, and its newest tap is more than
1500 ms old (R104, R112). -/
abbrev Stale (s : State) (now : Word) : Prop :=
  0 < s.tapCount.toNat ∧ s.tapCount.toNat < 4 ∧ 1500 < msBetween (newestTap s) now

/-- The BPM that the two bytes of the store hold, MSB first (R52). -/
def storedBpm (s : State) : Nat := 256 * (s.storeByte .msb).toNat + (s.storeByte .lsb).toNat

/-- The average interval, truncated, of a full sequence from the first tap in the buffer to `now` (R131). -/
def averageTo (s : State) (now : Word) : Nat := msBetween s.taps.t0 now / 3

/-- A good final state: nothing was refused and no firing was lost (R32, R42, R204). -/
abbrev Clean (s : State) : Prop := s.refused = false ∧ s.faultOverrun = false

/-- The debounce contract of R100 on the times of successive taps, with the OPEN `DEBOUNCE_MS` as its argument. -/
def DebounceContract (debounceMs : Nat) : List Word → Prop
  | a :: b :: ts => 20 ≤ debounceMs ∧ debounceMs ≤ (sub32 b a).toNat ∧ DebounceContract debounceMs (b :: ts)
  | _ => True

/-- The premise of R213 that ties the two timebases, with the OPEN `US_PER_MS` as its argument: between two timed events,
`us` microseconds pass for each millisecond by which their times differ. `last` is the time of the timed event before and
`n` the microseconds since (DEDUCED, log 15). -/
def TimebasesTied (us : Nat) : Option Word → Nat → List Instr → Prop
  | _, _, [] => True
  | last, n, .utick :: is => TimebasesTied us last (n + 1) is
  | last, n, .tick now :: is => (∀ b ∈ last, n = us * (sub32 now b).toNat) ∧ TimebasesTied us (some now) 0 is
  | last, n, .tap now :: is => (∀ b ∈ last, n = us * (sub32 now b).toNat) ∧ TimebasesTied us (some now) 0 is
  | last, n, .boot :: is => TimebasesTied us last n is
  | last, n, .isr :: is => TimebasesTied us last n is

/-- The value of a decimal number, from its digits (R78). -/
def decimalValue (ds : List Char) : Nat := ds.foldl (fun n c => 10 * n + (c.toNat - 48)) 0

/-- The value of a hexadecimal number, from its digits (R78). -/
def hexValue (ds : List Char) : Nat := ds.foldl (fun n c => 16 * n + (Assembler.digit c).getD 0) 0

/-- The invariants (a) to (f) of R45, under the configuration `p`. -/
structure Invariants (p : Config.Params) (s : State) : Prop where
  /-- (a) -/
  count : s.tapCount.toNat ≤ Config.numTaps - 1
  /-- (b) -/
  pulse : s.pulseCounter.toNat < p.ppb
  /-- (c) -/
  tempo : s.booted = true →
    1 ≤ s.bpm.toNat ∧ s.tmrPeriod.toNat = Config.kUs / s.bpm.toNat / p.ppb ∧ 1 ≤ s.tmrPeriod.toNat ∧ s.tmrEn = true
  /-- (d) -/
  phase : s.tmrEn = true → p.timerRestartOnApply = true → s.tmrElapsed.toNat < s.tmrPeriod.toNat
  /-- (e) -/
  mask : s.tmrMask = false
  /-- (f) -/
  sink : (∀ b ∈ s.sinkTrace, b = Config.clockByte) ∧ (p.debugMode = true → s.sinkTrace = [])

/-- The gaps between the taps in the buffer never exceed the timeout (R114), and the count leaves a free entry (R24). -/
structure TapGaps (p : Config.Params) (s : State) : Prop where
  count : s.tapCount.toNat ≤ 3
  second : 2 ≤ s.tapCount.toNat → (sub32 s.taps.t1 s.taps.t0).toNat ≤ p.maximumTapInterval
  third : 3 ≤ s.tapCount.toNat → (sub32 s.taps.t2 s.taps.t1).toNat ≤ p.maximumTapInterval

/-- The range of the tempo and of the period on this hardware once booted (R27, R28). -/
structure TempoRange (s : State) : Prop where
  bpmLow : s.booted = true → 400 ≤ s.bpm.toNat
  bpmHigh : s.booted = true → s.bpm.toNat ≤ 600000
  periodLow : s.booted = true → 41 ≤ s.tmrPeriod.toNat
  periodHigh : s.booted = true → s.tmrPeriod.toNat ≤ 62500

/-- The beat: the counter counts the pulses emitted, and the LED is on for the first four of every 24 from the first full
beat on (R164, R167). -/
structure BeatPhase (s : State) : Prop where
  counter : s.pulseCounter.toNat = s.sinkTrace.length % 24
  led : s.ledOn = decide (24 ≤ s.sinkTrace.length ∧ s.sinkTrace.length % 24 < 4)

/-- Before boot the timer is off, no interrupt is pending, and nothing has been put out (R77, R192, R230). -/
structure QuietBeforeBoot (s : State) : Prop where
  timerOff : s.booted = false → s.tmrEn = false
  nothingPending : s.booted = false → s.irqPending = false
  noPulse : s.booted = false → s.sinkTrace = []
  noWrite : s.booted = false → s.pwriteTrace = []
  noCode : s.booted = false → s.diagTrace = []

end Sys2Proof.Safety
end

