-- ==== Sys2Proof/Certificates/Slice0/Obligations.lean ====
section
/-! DEFINITION. What the provers are asked to prove about the model. Each docstring names the rules it formalises. -/

open Sys2Proof Sys2Proof.Machine Sys2Proof.Safety

/-! ## Encoding and stepping -/

/-- R70, R73, R74: a word is read as an event exactly when it is that event's word. -/
def Obligations.DecodeIsInverseOfEncode : Prop :=
  ∀ (w : EventWord) (i : Instr), decode w = .ok i ↔ w = encode i

/-- R74, R76: which words are reserved, which have a forbidden operand, and that decoding gives no other reason. -/
def Obligations.DecodeRefusesExactlyTheReservedWords : Prop :=
  ∀ w : EventWord,
    (decode w = .error .reservedOp ↔ w.toNat / 2 ^ 32 = 0 ∨ 6 ≤ w.toNat / 2 ^ 32) ∧
    (decode w = .error .nonzeroArg ↔
      (w.toNat / 2 ^ 32 = 1 ∨ w.toNat / 2 ^ 32 = 4 ∨ w.toNat / 2 ^ 32 = 5) ∧ w.toNat % 2 ^ 32 ≠ 0) ∧
    decode w ≠ .error .notEnabled

/-- R70, R73, and the words of 95_test_vectors 2.1. -/
def Obligations.VectorWordsDecode : Prop :=
  decode 0x0100000000 = .ok .boot ∧ decode 0x0100000001 = .error .nonzeroArg ∧
  decode 0x02FFFFFFFF = .ok (.tick 0xFFFFFFFF) ∧ decode 0x03000005DC = .ok (.tap 1500) ∧
  decode 0x0400000000 = .ok .utick ∧ decode 0x0480000000 = .error .nonzeroArg ∧
  decode 0x0500000000 = .ok .isr ∧ decode 0x0000000000 = .error .reservedOp ∧
  decode 0x0600000000 = .error .reservedOp ∧ decode 0xFFFFFFFFFF = .error .reservedOp

/-- R22, R60: a step takes the next event word of the trace and runs the event it decodes to. The list of words still to
come is the model's own (log 1). -/
def Obligations.StepRunsTheDecodedEvent : Prop :=
  ∀ (s : State) (w : EventWord) (ws : List EventWord) (i : Instr),
    s.events = w :: ws → decode w = .ok i → step s = exec i { s with events := ws }

/-- R76: a reserved word, and an operand where none is allowed, set REFUSED and change nothing else. That the
word is used up is the model's own trace (log 1). -/
def Obligations.StepRefusesWordsWithNoMeaning : Prop :=
  ∀ (s : State) (w : EventWord) (ws : List EventWord), s.events = w :: ws →
    (w.toNat / 2 ^ 32 = 0 ∨ 6 ≤ w.toNat / 2 ^ 32 ∨
      ((w.toNat / 2 ^ 32 = 1 ∨ w.toNat / 2 ^ 32 = 4 ∨ w.toNat / 2 ^ 32 = 5) ∧ w.toNat % 2 ^ 32 ≠ 0)) →
    step s = .next { s with events := ws, refused := true }

/-- R241 and log 2 (the model's choice): with no event left, `step` stops by name. -/
def Obligations.StepStopsWhenTheTraceEnds : Prop :=
  ∀ s : State, s.events = [] → step s = .refused .noEvent

/-- R70, R22: an event whose word is put in front of the trace is the one the next step runs. Placing a word
is the model's (log 1). -/
def Obligations.PlacedEventRunsNext : Prop :=
  ∀ (s : State) (i : Instr), step (s.withFetchWord 40 (encode i).toNat) = exec i s

/-- R200, R202: every event, in every state, has a next state. -/
def Obligations.EveryEventHasANextState : Prop :=
  ∀ (i : Instr) (s : State), ∃ t, exec i s = .next t

/-! ## What each event does -/

/-- R77: an event that is not enabled sets REFUSED and changes nothing else; UTICK is legal always and does nothing while
the timer is off. -/
def Obligations.EventsThatAreNotEnabledAreRefused : Prop :=
  (∀ s : State, s.booted = true → exec .boot s = .next { s with refused := true }) ∧
  (∀ (s : State) (now : Word), s.booted = false → exec (.tick now) s = .next { s with refused := true }) ∧
  (∀ (s : State) (now : Word), s.booted = false → exec (.tap now) s = .next { s with refused := true }) ∧
  (∀ s : State, s.irqPending = false → exec .isr s = .next { s with refused := true }) ∧
  (∀ s : State, s.tmrEn = false → exec .utick s = .next s) ∧
  (∀ s : State, ∃ t, exec .utick s = .next t ∧ t.refused = s.refused)

/-- R190, R191, R192 with this hardware's configuration: BOOT with a stored BPM in [400, 3000]. -/
def Obligations.BootAppliesAStoredTempo : Prop :=
  ∀ s : State, s.booted = false → 400 ≤ storedBpm s → storedBpm s ≤ 3000 →
    exec .boot s = .next
      { s with
        bpm := BitVec.ofNat 32 (storedBpm s)
        tmrPeriod := BitVec.ofNat 32 (600000000 / storedBpm s / 24)
        tmrElapsed := 0
        tmrMask := false
        tmrEn := true
        booted := true
        pwriteTrace := s.pwriteTrace ++ [(.msb, s.storeByte .msb), (.lsb, s.storeByte .lsb)] }

/-- R190, R191, R201: BOOT with a stored BPM outside [400, 3000] takes 1200, not the nearer bound, and says so. -/
def Obligations.BootReplacesAnInvalidTempo : Prop :=
  ∀ s : State, s.booted = false → storedBpm s < 400 ∨ 3000 < storedBpm s →
    exec .boot s = .next
      { s with
        bpm := 1200
        tmrPeriod := 20833
        tmrElapsed := 0
        tmrMask := false
        tmrEn := true
        booted := true
        pwriteTrace := s.pwriteTrace ++ [(.msb, 0x04), (.lsb, 0xB0)]
        diagTrace := s.diagTrace ++ [3] }

/-- R102, R104, R110: TICK clears an abandoned sequence, and changes nothing else and at no other time. -/
def Obligations.TickClearsAStaleSequence : Prop :=
  ∀ (s : State) (now : Word), s.booted = true →
    exec (.tick now) s = .next
      (if Stale s now then { s with tapCount := 0, diagTrace := s.diagTrace ++ [1] } else s)

/-- R106, R104, R108: a TAP that comes too late clears the stale sequence and is tap 1 of a new one. -/
def Obligations.LateTapStartsANewSequence : Prop :=
  ∀ (s : State) (now : Word), s.booted = true → Stale s now →
    exec (.tap now) s = .next
      { s with taps := { s.taps with t0 := now }, tapCount := 1, diagTrace := s.diagTrace ++ [1] }

/-- R106, R108: the first, second and third tap of a sequence are stored at the next free entry. -/
def Obligations.TapIsStoredAtTheNextFreeEntry : Prop :=
  ∀ (s : State) (now : Word), s.booted = true → ¬ Stale s now →
    (s.tapCount = 0 → exec (.tap now) s = .next { s with taps := { s.taps with t0 := now }, tapCount := 1 }) ∧
    (s.tapCount = 1 → exec (.tap now) s = .next { s with taps := { s.taps with t1 := now }, tapCount := 2 }) ∧
    (s.tapCount = 2 → exec (.tap now) s = .next { s with taps := { s.taps with t2 := now }, tapCount := 3 })

/-- R106, R108, R131, R135, R139: the fourth tap sets the tempo, restarts the timer, persists the tempo and clears the
buffer. -/
def Obligations.FourthTapSetsTheTempo : Prop :=
  ∀ (s : State) (now : Word), s.booted = true → ¬ Stale s now → s.tapCount = 3 →
    1 ≤ averageTo s now → averageTo s now ≤ 600000 →
    exec (.tap now) s = .next
      { s with
        taps := { s.taps with t3 := now }
        tapCount := 0
        bpm := BitVec.ofNat 32 (600000 / averageTo s now)
        tmrPeriod := BitVec.ofNat 32 (600000000 / (600000 / averageTo s now) / 24)
        tmrElapsed := 0
        tmrMask := false
        pwriteTrace := s.pwriteTrace ++
          [(.msb, BitVec.ofNat 8 (600000 / averageTo s now / 256)), (.lsb, BitVec.ofNat 8 (600000 / averageTo s now))] }

/-- R108, R131, R133: a fourth tap with a zero average, or one whose quotient is zero, changes no tempo and writes nothing;
the buffer is cleared all the same. -/
def Obligations.FourthTapWithNoTempoIsRejected : Prop :=
  ∀ (s : State) (now : Word), s.booted = true → ¬ Stale s now → s.tapCount = 3 →
    averageTo s now = 0 ∨ 600000 < averageTo s now →
    exec (.tap now) s = .next
      { s with taps := { s.taps with t3 := now }, tapCount := 0, diagTrace := s.diagTrace ++ [2] }

/-- With no free entry TAP has no effect: the guard of R104 leaves the check idle there, and that of R108 the append
(R106). No run reaches such a count (R24), so that the guards decide there is the model's choice (DESIGN CHOICE, log 13). -/
def Obligations.TapWithAFullBufferHasNoEffect : Prop :=
  ∀ (s : State) (now : Word), s.booted = true → 4 ≤ s.tapCount.toNat → exec (.tap now) s = .next s

/-- R160, R161, R204: UTICK counts, expires, or overruns. -/
def Obligations.UtickCountsAndExpires : Prop :=
  ∀ s : State, s.tmrEn = true →
    (s.tmrElapsed.toNat + 1 < s.tmrPeriod.toNat →
      exec .utick s = .next { s with tmrElapsed := BitVec.ofNat 32 (s.tmrElapsed.toNat + 1) }) ∧
    (s.tmrPeriod.toNat ≤ s.tmrElapsed.toNat + 1 → s.irqPending = false →
      exec .utick s = .next { s with tmrElapsed := 0, irqPending := true }) ∧
    (s.tmrPeriod.toNat ≤ s.tmrElapsed.toNat + 1 → s.irqPending = true →
      exec .utick s = .next { s with tmrElapsed := 0, faultOverrun := true, diagTrace := s.diagTrace ++ [4] })

/-- R163, R164, R165, R166 with this hardware's configuration: one pulse. -/
def Obligations.IsrEmitsOnePulse : Prop :=
  ∀ s : State, s.irqPending = true →
    exec .isr s = .next
      { s with
        irqPending := false
        sinkTrace := s.sinkTrace ++ [0xF8]
        pulseCounter := BitVec.ofNat 5 ((s.pulseCounter.toNat + 1) % 24)
        ledOn := if (s.pulseCounter.toNat + 1) % 24 = 0 then true
          else if (s.pulseCounter.toNat + 1) % 24 = 4 then false else s.ledOn }

/-! ## Reset -/

/-- R44, R230: the fields whose reset value the spec gives, and what the events do there. -/
def Obligations.ResetLeavesTheBlockWaitingForBoot : Prop :=
  State.reset.tapCount = 0 ∧ State.reset.bpm = 0 ∧ State.reset.tmrPeriod = 0 ∧ State.reset.tmrElapsed = 0 ∧
  State.reset.tmrEn = false ∧ State.reset.tmrMask = false ∧ State.reset.irqPending = false ∧
  State.reset.pulseCounter = 0 ∧ State.reset.ledOn = false ∧ State.reset.booted = false ∧
  State.reset.faultOverrun = false ∧ State.reset.refused = false ∧ State.reset.sinkTrace = [] ∧
  State.reset.pwriteTrace = [] ∧ State.reset.diagTrace = [] ∧
  exec .utick State.reset = .next State.reset ∧
  (∀ i, enabled i State.reset = true ↔ i = .boot ∨ i = .utick)

/-- R232, R41: a power-on reset keeps nothing of the run before it, and its PSTORE is a new draw. What is the model's own
here: TAPS are 0 as at reset, where R44 leaves them unspecified (DESIGN CHOICE, log 4), the draw is a free value (log 5),
the count of power-ons is a field of the model (log 6), and the events still to come stay (DESIGN CHOICE, log 17). -/
def Obligations.PowerOnKeepsNothing : Prop :=
  ∀ s : State,
    { s.powerOn with events := [], powerCycle := 0 } = State.reset ∧
    s.powerOn.events = s.events ∧
    ∀ slot : Slot, s.powerOn.storeByte slot = Config.pstoreDraw (s.powerCycle + 1) slot.addr

/-! ## Frames -/

/-- R43, R102: TICK writes TAP_COUNT, DIAG_TRACE and, when refused, REFUSED. -/
def Obligations.TickFrame : Prop :=
  ∀ (s t : State) (now : Word), exec (.tick now) s = .next t →
    { t with tapCount := s.tapCount, diagTrace := s.diagTrace, refused := s.refused } = s ∧
    ∀ slot : Slot, t.storeByte slot = s.storeByte slot

/-- R43, R106: TAP writes the tap buffer, the tempo, the timer's period, count and mask, PWRITE_TRACE, DIAG_TRACE and,
when refused, REFUSED. It stores to no cell of PSTORE (R55). -/
def Obligations.TapFrame : Prop :=
  ∀ (s t : State) (now : Word), exec (.tap now) s = .next t →
    t.tmrEn = s.tmrEn ∧ t.irqPending = s.irqPending ∧ t.pulseCounter = s.pulseCounter ∧ t.ledOn = s.ledOn ∧
    t.booted = s.booted ∧ t.faultOverrun = s.faultOverrun ∧ t.sinkTrace = s.sinkTrace ∧ t.events = s.events ∧
    t.pstore = s.pstore ∧ t.powerCycle = s.powerCycle ∧
    (s.tapCount ≠ 3 → t.bpm = s.bpm ∧ t.tmrPeriod = s.tmrPeriod ∧ t.tmrElapsed = s.tmrElapsed ∧
      t.tmrMask = s.tmrMask ∧ t.pwriteTrace = s.pwriteTrace) ∧
    ∀ slot : Slot, t.storeByte slot = s.storeByte slot

/-- R43, R190: BOOT writes the tempo, the timer, BOOTED, PWRITE_TRACE, DIAG_TRACE and, when refused, REFUSED. -/
def Obligations.BootFrame : Prop :=
  ∀ s t : State, exec .boot s = .next t →
    t.taps = s.taps ∧ t.tapCount = s.tapCount ∧ t.irqPending = s.irqPending ∧ t.pulseCounter = s.pulseCounter ∧
    t.ledOn = s.ledOn ∧ t.faultOverrun = s.faultOverrun ∧ t.sinkTrace = s.sinkTrace ∧ t.events = s.events ∧
    t.pstore = s.pstore ∧ t.powerCycle = s.powerCycle ∧ ∀ slot : Slot, t.storeByte slot = s.storeByte slot

/-- R43, R160, R163: UTICK writes TMR_ELAPSED, IRQ_PENDING, FAULT_OVERRUN and DIAG_TRACE; ISR writes IRQ_PENDING,
SINK_TRACE, PULSE_COUNTER, LED_ON and, when refused, REFUSED. -/
def Obligations.TimerAndHandlerFrames : Prop :=
  (∀ s t : State, exec .utick s = .next t →
    { t with tmrElapsed := s.tmrElapsed, irqPending := s.irqPending, faultOverrun := s.faultOverrun,
             diagTrace := s.diagTrace } = s ∧
    ∀ slot : Slot, t.storeByte slot = s.storeByte slot) ∧
  (∀ s t : State, exec .isr s = .next t →
    { t with irqPending := s.irqPending, sinkTrace := s.sinkTrace, pulseCounter := s.pulseCounter,
             ledOn := s.ledOn, refused := s.refused } = s ∧
    ∀ slot : Slot, t.storeByte slot = s.storeByte slot)

/-! ## Invariants -/

/-- R45 and the other invariants of Safety hold at reset. -/
def Obligations.InvariantsHoldAtReset : Prop :=
  Invariants Config.hw State.reset ∧ TapGaps Config.hw State.reset ∧ TempoRange State.reset ∧
  BeatPhase State.reset ∧ QuietBeforeBoot State.reset ∧ State.reset.pstore.wf = true

/-- R45: every step keeps (a) to (f). -/
def Obligations.StepKeepsTheInvariants : Prop :=
  ∀ s t : State, Invariants Config.hw s → step s = .next t → Invariants Config.hw t

/-- R45 and R9: every event keeps (a) to (f) under every configuration that meets R9. -/
def Obligations.InvariantsUnderEveryLegalConfiguration : Prop :=
  ∀ (p : Config.Params) (i : Instr) (s : State), p.Legal → Invariants p s → Invariants p (eventStep p i s)

/-- R24, R27, R28, R114: every step keeps the gaps in the buffer within the timeout and the tempo and the period in their
ranges. -/
def Obligations.StepKeepsTheTempoInRange : Prop :=
  ∀ s t : State, TapGaps Config.hw s → TempoRange s → step s = .next t → TapGaps Config.hw t ∧ TempoRange t

/-- R164, R167: every step keeps the counter equal to the number of pulses mod 24 and the LED on for the first four pulses
of every beat from the first full beat on. -/
def Obligations.StepKeepsTheBeatPhase : Prop :=
  ∀ s t : State, BeatPhase s → step s = .next t → BeatPhase t

/-- R192, R77: before BOOT the timer is off, no interrupt is pending, and no pulse, no persistence write and no diagnostic
code goes out. -/
def Obligations.NothingIsEmittedBeforeBoot : Prop :=
  ∀ s t : State, QuietBeforeBoot s → step s = .next t → QuietBeforeBoot t

/-- R41, R55: no step changes what the store presents, and its canonical form, the model's own (log 5), stays. -/
def Obligations.StepKeepsTheStore : Prop :=
  ∀ s t : State, s.pstore.wf = true → step s = .next t →
    t.pstore.wf = true ∧ ∀ slot : Slot, t.storeByte slot = s.storeByte slot

/-! ## Rules about the whole machine -/

/-- R32, R42, R204: REFUSED is set by an event that is not enabled and by nothing else, FAULT_OVERRUN by an expiry while
the interrupt is pending and by nothing else; no event clears either. -/
def Obligations.StickyBitsRecordExactlyTheirCauses : Prop :=
  ∀ (i : Instr) (s t : State), exec i s = .next t →
    t.refused = (s.refused || !enabled i s) ∧
    t.faultOverrun = (s.faultOverrun ||
      (decide (i = .utick) && s.tmrEn && s.irqPending && decide (s.tmrPeriod.toNat ≤ s.tmrElapsed.toNat + 1)))

/-- R203: what one event can report. The timeout check of a TAP comes first, so a stale sequence leaves it no other
report. A refused event reports nothing. -/
def Obligations.EachEventReportsAtMostOneOutcome : Prop :=
  ∀ (i : Instr) (s t : State), exec i s = .next t →
    ∃ codes : List DiagCode, t.diagTrace = s.diagTrace ++ codes ∧
      (enabled i s = false → codes = []) ∧
      match i with
      | .boot => codes = [] ∨ codes = [3]
      | .tick _ => codes = [] ∨ codes = [1]
      | .tap now =>
        (codes = [] ∨ codes = [1] ∨ codes = [2]) ∧ (enabled (.tap now) s = true → Stale s now → codes = [1])
      | .utick => codes = [] ∨ codes = [4]
      | .isr => codes = []

/-- R103: one TICK or TAP clears on timeout or recomputes, never both. -/
def Obligations.NoEventBothClearsAndRecomputes : Prop :=
  ∀ (s t : State) (now : Word), exec (.tap now) s = .next t → s.booted = true →
    (Stale s now → t.bpm = s.bpm ∧ t.tmrPeriod = s.tmrPeriod ∧ t.pwriteTrace = s.pwriteTrace ∧ t.tapCount = 1) ∧
    (t.pwriteTrace ≠ s.pwriteTrace → ¬ Stale s now ∧ s.tapCount = 3 ∧ t.diagTrace = s.diagTrace)

/-- R140: under every configuration, a persistence write happens at a recomputation that applies a tempo and at BOOT where
`BOOT_PERSIST_WRITE` is true, only with `PERSIST_ENABLE`, and it is the two bytes of the new BPM. -/
def Obligations.PersistenceWritesHappenInExactlyTheseCases : Prop :=
  ∀ (p : Config.Params) (i : Instr) (s : State),
    (eventStep p i s).pwriteTrace = s.pwriteTrace ++
      if (match i with
          | .boot => !s.booted && p.bootPersistWrite && p.persistEnable
          | .tap now => s.booted && p.persistEnable && decide (s.tapCount = 3) &&
              decide (msBetween s.taps.t2 now ≤ p.maximumTapInterval) &&
              decide (1 ≤ averageTo s now ∧ averageTo s now ≤ 600000)
          | .tick _ => false
          | .utick => false
          | .isr => false) = true
      then [(.msb, (eventStep p i s).bpm.extractLsb' 8 8), (.lsb, (eventStep p i s).bpm.extractLsb' 0 8)]
      else []

/-- R193: BOOT leaves BPM and TMR_PERIOD in their ranges, and both stay until a TAP that recomputes. -/
def Obligations.BootTempoStaysUntilARecomputation : Prop :=
  (∀ s t : State, s.booted = false → exec .boot s = .next t →
    400 ≤ t.bpm.toNat ∧ t.bpm.toNat ≤ 3000 ∧ 8333 ≤ t.tmrPeriod.toNat ∧ t.tmrPeriod.toNat ≤ 62500) ∧
  (∀ (i : Instr) (s t : State), s.booted = true → exec i s = .next t →
    (∀ now, i = .tap now → s.tapCount ≠ 3 ∨ Stale s now ∨ averageTo s now = 0) →
    t.bpm = s.bpm ∧ t.tmrPeriod = s.tmrPeriod)

/-- R60, R43: a MAIN event and the handler commute, under every configuration, so a MAIN event is as good as atomic. -/
def Obligations.MainEventsCommuteWithTheHandler : Prop :=
  ∀ (p : Config.Params) (i : Instr) (s : State), agentOf i = .main →
    eventStep p i (eventStep p .isr s) = eventStep p .isr (eventStep p i s)

/-- R61, R42, R77: a run from a state with REFUSED = 0 ends with REFUSED = 0 exactly when its events are a schedule. -/
def Obligations.RefusedMarksExactlyTheNonSchedules : Prop :=
  ∀ (p : Config.Params) (is : List Instr) (s : State), s.refused = false →
    ((runEvents p is s).refused = false ↔ isSchedule p is s = true)

/-! ## Tap sequences -/

/-- R114, R132: when the fourth tap fills the buffer, the span of R131 is the sum of the three gaps, without wrapping and at
most 4500 ms, and the average of R131 is their mean. The entries stay in the buffer when it is cleared (R110). -/
def Obligations.GapsTelescope : Prop :=
  ∀ (s : State) (now : Word), s.booted = true → s.tapCount = 3 → TapGaps Config.hw s → ¬ Stale s now →
    ∃ t, exec (.tap now) s = .next t ∧
      t.tapSpan.toNat = (sub32 s.taps.t1 s.taps.t0).toNat + (sub32 s.taps.t2 s.taps.t1).toNat +
        (sub32 now s.taps.t2).toNat ∧
      t.tapSpan.toNat ≤ 4500 ∧
      t.tapAverage = ((sub32 s.taps.t1 s.taps.t0).toNat + (sub32 s.taps.t2 s.taps.t1).toNat +
        (sub32 now s.taps.t2).toNat) / 3

/-- R132, E2: four taps d ms apart, 1 ≤ d ≤ 1500, on an empty buffer give exactly K_MS / d. -/
def Obligations.EqualSpacingGivesTheTempo : Prop :=
  ∀ (s : State) (t0 : Word) (d : Nat), s.booted = true → s.tapCount = 0 → 1 ≤ d → d ≤ 1500 →
    let t := runEvents Config.hw (tapSeq t0 (BitVec.ofNat 32 d) 4) s
    t.bpm = BitVec.ofNat 32 (600000 / d) ∧ t.tmrPeriod = BitVec.ofNat 32 (600000000 / (600000 / d) / 24) ∧
    t.tmrElapsed = 0 ∧ t.tapCount = 0 ∧ t.refused = s.refused ∧ t.diagTrace = s.diagTrace

/-- R132, C9, E2: taps more than 1500 ms apart never recompute, each one times out the one before. -/
def Obligations.SlowTapsNeverSetTheTempo : Prop :=
  ∀ (s : State) (t0 : Word) (d : Nat), s.booted = true → s.tapCount = 0 → 1500 < d → d < 2 ^ 32 →
    let t := runEvents Config.hw (tapSeq t0 (BitVec.ofNat 32 d) 4) s
    t.bpm = s.bpm ∧ t.tmrPeriod = s.tmrPeriod ∧ t.pwriteTrace = s.pwriteTrace ∧ t.tapCount = 1 ∧
    t.diagTrace = s.diagTrace ++ [1, 1, 1]

/-- R116, R134, R234: under the debounce contract a fourth tap gives a tempo in [400, 30000] and a period of at least
833 µs. -/
def Obligations.DebouncedTapsKeepTheTempoAtMost30000 : Prop :=
  ∀ (s t : State) (now : Word) (ms : Nat), s.booted = true → s.tapCount = 3 → TapGaps Config.hw s →
    msBetween s.taps.t2 now ≤ 1500 → DebounceContract ms [s.taps.t0, s.taps.t1, s.taps.t2, now] →
    exec (.tap now) s = .next t →
    20 ≤ averageTo s now ∧ averageTo s now ≤ 1500 ∧ 400 ≤ t.bpm.toNat ∧ t.bpm.toNat ≤ 30000 ∧ 833 ≤ t.tmrPeriod.toNat

/-- R134: with the clamp, under every configuration that meets R9, a TAP keeps the tempo or puts it in the window. -/
def Obligations.ClampKeepsTheTempoInTheWindow : Prop :=
  ∀ (p : Config.Params) (s : State) (now : Word), p.Legal → p.clampTapBpm = true →
    (eventStep p (.tap now) s).bpm = s.bpm ∨
    (p.minimumBpm ≤ (eventStep p (.tap now) s).bpm.toNat ∧ (eventStep p (.tap now) s).bpm.toNat ≤ p.maximumBpm)

/-- TICKs between two taps change nothing of what the second TAP leaves, if time does not run backwards (R237). DIAG_TRACE
included, which goes beyond R237: by R102, R104 and R106 a sequence that a TICK clears is one that the TAP would clear, and
the one code 1 is emitted either way, by an earlier event with the TICK. -/
def Obligations.PollCadenceDoesNotMatter : Prop :=
  ∀ (s : State) (polls : List Word) (now : Word), s.booted = true →
    (0 < s.tapCount.toNat → s.tapCount.toNat < 4 →
      ∀ k ∈ polls, msBetween (newestTap s) k ≤ msBetween (newestTap s) now) →
    runEvents Config.hw (polls.map Instr.tick ++ [.tap now]) s = runEvents Config.hw [.tap now] s

/-! ## Tempo arithmetic -/

/-- R135, R137, R138, R139 under every configuration that meets R9, for every BPM that R135 allows: everything `applyTempo`
writes. -/
def Obligations.ApplyTempoWritesTempoTimerAndStore : Prop :=
  ∀ (p : Config.Params) (bpm : Word) (persist : Bool) (s : State), p.Legal → 1 ≤ bpm.toNat →
    applyTempo p bpm persist s =
      { s with
        bpm := bpm
        tmrPeriod := BitVec.ofNat 32 (600000000 / bpm.toNat / p.ppb)
        tmrElapsed := if p.timerRestartOnApply then 0 else s.tmrElapsed
        tmrMask := false
        pwriteTrace := if persist && p.persistEnable
          then s.pwriteTrace ++ [(.msb, bpm.extractLsb' 8 8), (.lsb, bpm.extractLsb' 0 8)] else s.pwriteTrace }

/-- R136: nested truncation loses nothing, the named values, and the exact round trip over [400, 3000]. -/
def Obligations.PeriodArithmetic : Prop :=
  (∀ bpm, 1 ≤ bpm → periodOf Config.hw bpm = 600000000 / (bpm * 24)) ∧
  periodOf Config.hw 400 = 62500 ∧ periodOf Config.hw 1200 = 20833 ∧ periodOf Config.hw 3000 = 8333 ∧
  periodOf Config.hw 600000 = 41 ∧
  ∀ bpm, 400 ≤ bpm → bpm ≤ 3000 →
    8333 ≤ periodOf Config.hw bpm ∧ periodOf Config.hw bpm ≤ 62500 ∧
    600000000 / periodOf Config.hw bpm / 24 = bpm

/-- R191 under every configuration that meets R9: what is loaded, and when a stored value is reported as rejected. -/
def Obligations.LoadPersistedValidates : Prop :=
  ∀ (p : Config.Params) (s : State), p.Legal →
    (p.persistEnable = true → p.minimumBpm ≤ storedBpm s → storedBpm s ≤ p.maximumBpm →
      (loadedBpm p s).toNat = storedBpm s ∧ loadDiag p s = s) ∧
    (p.persistEnable = true → storedBpm s < p.minimumBpm ∨ p.maximumBpm < storedBpm s →
      (loadedBpm p s).toNat = p.defaultBpm ∧ loadDiag p s = { s with diagTrace := s.diagTrace ++ [3] }) ∧
    (p.persistEnable = false → (loadedBpm p s).toNat = p.defaultBpm ∧ loadDiag p s = s)

/-- R52: the stored BPM is big-endian, and a write stores bits 15..8 in slot 0 and then bits 7..0 in slot 1. -/
def Obligations.PersistedBpmIsBigEndian : Prop :=
  (∀ (s : State) (m l : Byte), (s.withStore m l).persistedBpm = (m ++ l : BitVec 16)) ∧
  (∀ (bpm : Word) (s : State),
    persistWrite bpm s =
      { s with pwriteTrace := s.pwriteTrace ++
          [(.msb, BitVec.ofNat 8 (bpm.toNat / 256)), (.lsb, BitVec.ofNat 8 bpm.toNat)] }) ∧
  Slot.msb.addr = 0 ∧ Slot.lsb.addr = 1

/-! ## The pulse clock -/

/-- R166 under every configuration: the two tests, the second after the first, and nothing but LED_ON. -/
def Obligations.LedTestsInOrder : Prop :=
  ∀ (p : Config.Params) (c : BitVec 5) (s : State),
    (c.toNat = p.blinkDuration → ledUpdate p c s = { s with ledOn := false }) ∧
    (c.toNat ≠ p.blinkDuration → c.toNat = 0 → ledUpdate p c s = { s with ledOn := true }) ∧
    (c.toNat ≠ p.blinkDuration → c.toNat ≠ 0 → ledUpdate p c s = s)

/-- R165, E7 under every configuration: each event that is not a handled interrupt leaves the sink alone, a handled one
emits one 0xF8 unless in debug mode, and a run in debug mode emits nothing. -/
def Obligations.ClockBytesOnlyOutsideDebugMode : Prop :=
  (∀ (p : Config.Params) (i : Instr) (s : State),
    (eventStep p i s).sinkTrace = s.sinkTrace ++
      if i = .isr ∧ s.irqPending = true ∧ p.debugMode = false then [0xF8] else []) ∧
  (∀ (p : Config.Params) (is : List Instr) (s : State), p.debugMode = true →
    (runEvents p is s).sinkTrace = s.sinkTrace)

/-- R137, R161, R162 under every configuration that meets R9, for every BPM that R135 allows. With the restart the next expiry
comes exactly one new period after `applyTempo`. With the phase kept it comes when the count reaches the new period, and on
the next UTICK where it already has. -/
def Obligations.RestartDecidesTheNextExpiry : Prop :=
  ∀ (p : Config.Params) (bpm : Word) (persist : Bool) (s : State), p.Legal → 1 ≤ bpm.toNat →
    let period := 600000000 / bpm.toNat / p.ppb
    let t := applyTempo p bpm persist s
    (p.timerRestartOnApply = true → t.tmrElapsed = 0 ∧ (s.tmrEn = true → s.irqPending = false →
      (∀ n, n < period → runEvents p (uwait n) t = { t with tmrElapsed := BitVec.ofNat 32 n }) ∧
      (1 ≤ period → runEvents p (uwait period) t = { t with tmrElapsed := 0, irqPending := true }))) ∧
    (p.timerRestartOnApply = false → t.tmrElapsed = s.tmrElapsed ∧ (s.tmrEn = true → s.irqPending = false →
      (∀ n, s.tmrElapsed.toNat + n < period →
        runEvents p (uwait n) t = { t with tmrElapsed := BitVec.ofNat 32 (s.tmrElapsed.toNat + n) }) ∧
      (s.tmrElapsed.toNat < period →
        runEvents p (uwait (period - s.tmrElapsed.toNat)) t = { t with tmrElapsed := 0, irqPending := true }) ∧
      (period ≤ s.tmrElapsed.toNat → eventStep p .utick t = { t with tmrElapsed := 0, irqPending := true })))

/-- R162: with no reprogramming, an expiry comes exactly TMR_PERIOD UTICKs after the count was 0, and not before. -/
def Obligations.ExpiryComesAfterOnePeriod : Prop :=
  ∀ (p : Config.Params) (s : State) (n : Nat), s.tmrEn = true →
    (s.tmrElapsed.toNat + n < s.tmrPeriod.toNat →
      runEvents p (uwait n) s = { s with tmrElapsed := BitVec.ofNat 32 (s.tmrElapsed.toNat + n) }) ∧
    (1 ≤ n → s.tmrElapsed.toNat + n = s.tmrPeriod.toNat → s.irqPending = false →
      runEvents p (uwait n) s = { s with tmrElapsed := 0, irqPending := true })

/-- R79, R240: the eager schedule is a schedule, never overruns, and leaves no interrupt pending. -/
def Obligations.EagerScheduleNeverOverruns : Prop :=
  ∀ (p : Config.Params) (n : Nat) (s : State), s.irqPending = false →
    isSchedule p (uwaitEager p n s) s = true ∧
    (runEvents p (uwaitEager p n s) s).faultOverrun = s.faultOverrun ∧
    (runEvents p (uwaitEager p n s) s).irqPending = false

/-- R162, R163, R164: on this hardware, k periods of the eager schedule emit exactly k clock bytes and advance the beat by
k pulses. -/
def Obligations.EagerScheduleEmitsOnePulsePerPeriod : Prop :=
  ∀ (s : State) (k : Nat), s.tmrEn = true → s.irqPending = false → s.tmrElapsed = 0 → 1 ≤ s.tmrPeriod.toNat →
    s.pulseCounter.toNat < 24 →
    let t := runEvents Config.hw (uwaitEager Config.hw (k * s.tmrPeriod.toNat) s) s
    t.sinkTrace = s.sinkTrace ++ List.replicate k 0xF8 ∧
    t.pulseCounter.toNat = (s.pulseCounter.toNat + k) % 24 ∧ t.tmrElapsed = 0 ∧ t.irqPending = false

/-! ## Host interface -/

/-- R231, R55, R41: the bytes the environment presents are the ones BOOT reads, and the store keeps its canonical
form, the model's own (log 5). -/
def Obligations.PresentedBytesAreRead : Prop :=
  ∀ (s : State) (m l : Byte),
    (s.withStore m l).storeByte .msb = m ∧ (s.withStore m l).storeByte .lsb = l ∧
    (s.pstore.wf = true → (s.withStore m l).pstore.wf = true)

/-- R36, R214: the LED level, and for every event what its step puts out at the sink, the store and the diagnostic port. -/
def Obligations.PortsShowWhatAStepPutsOut : Prop :=
  (∀ s : State, ledLevel s = if s.ledOn then Config.ledOnLevel else Config.ledOffLevel) ∧
  (∀ (i : Instr) (s t : State), enabled i s = false → exec i s = .next t →
    sinkOut s t = [] ∧ storeOut s t = [] ∧ diagOut s t = []) ∧
  (∀ s t : State, s.booted = false → exec .boot s = .next t →
    sinkOut s t = [] ∧ storeOut s t = [(.msb, t.bpm.extractLsb' 8 8), (.lsb, t.bpm.extractLsb' 0 8)] ∧
    diagOut s t = if 400 ≤ storedBpm s ∧ storedBpm s ≤ 3000 then [] else [3]) ∧
  (∀ (s t : State) (now : Word), s.booted = true → exec (.tick now) s = .next t →
    sinkOut s t = [] ∧ storeOut s t = [] ∧ diagOut s t = if Stale s now then [1] else []) ∧
  (∀ (s t : State) (now : Word), s.booted = true → exec (.tap now) s = .next t →
    sinkOut s t = [] ∧
    (storeOut s t =
      if ¬ Stale s now ∧ s.tapCount = 3 ∧ 1 ≤ averageTo s now ∧ averageTo s now ≤ 600000
      then [(.msb, t.bpm.extractLsb' 8 8), (.lsb, t.bpm.extractLsb' 0 8)] else []) ∧
    diagOut s t =
      if Stale s now then [1]
      else if s.tapCount = 3 ∧ (averageTo s now = 0 ∨ 600000 < averageTo s now) then [2] else []) ∧
  (∀ s t : State, exec .utick s = .next t →
    sinkOut s t = [] ∧ storeOut s t = [] ∧
    diagOut s t =
      if s.tmrEn = true ∧ s.irqPending = true ∧ s.tmrPeriod.toNat ≤ s.tmrElapsed.toNat + 1 then [4] else []) ∧
  (∀ s t : State, s.irqPending = true → exec .isr s = .next t →
    sinkOut s t = [0xF8] ∧ storeOut s t = [] ∧ diagOut s t = [])

/-! ## The assembler -/

/-- R78, R79: the three lines without an operand, comments, the word of an event, and the expansion of each
pseudo-instruction under every configuration and in every state. -/
def Obligations.AssemblerExpandsLines : Prop :=
  Assembler.parseLine ['B', 'O', 'O', 'T'] = some [.event .boot] ∧
  Assembler.parseLine ['U', 'T', 'I', 'C', 'K'] = some [.event .utick] ∧
  Assembler.parseLine ['I', 'S', 'R'] = some [.event .isr] ∧
  (∀ line comment, Assembler.parseLine (line ++ ';' :: comment) = Assembler.parseLine line) ∧
  ∀ (p : Config.Params) (s : State),
    (∀ i, Assembler.assemble p [.event i] s = [encode i]) ∧
    (∀ n, Assembler.expandAll p [.uwait n] s = List.replicate n .utick) ∧
    Assembler.expandAll p [.uwaitEager 0] s = [] ∧
    (∀ n, Assembler.expandAll p [.uwaitEager (n + 1)] s =
      let s1 := eventStep p .utick s
      if s1.irqPending then .utick :: .isr :: Assembler.expandAll p [.uwaitEager n] (eventStep p .isr s1)
      else .utick :: Assembler.expandAll p [.uwaitEager n] s1) ∧
    (∀ (t0 d : Word) (k : Nat), Assembler.expandAll p [.tapseq t0 d k] s =
      (List.range k).map fun j => .tap (BitVec.ofNat 32 (t0.toNat + j * d.toNat))) ∧
    (∀ items rest, Assembler.assemble p (items ++ rest) s =
      Assembler.assemble p items s ++ Assembler.assemble p rest (runEvents p (Assembler.expandAll p items s) s))

/-- R78, R79: the lines with operands, for every number. A time below 2^32 is accepted and a larger one is rejected, in decimal
and in hexadecimal. That the counts are unbounded and that t0 and d of TAPSEQ have the form and the bound of a time is the
model's choice, as are the blanks and the capital hexadecimal digits (DESIGN CHOICE, log 16). -/
def Obligations.AssemblerReadsNumbers : Prop :=
  (∀ ds : List Char, ds ≠ [] → (∀ c ∈ ds, c.isDigit = true) →
    (decimalValue ds < 2 ^ 32 →
      Assembler.parseLine (['T', 'I', 'C', 'K', ' '] ++ ds) = some [.event (.tick (BitVec.ofNat 32 (decimalValue ds)))] ∧
      Assembler.parseLine (['T', 'A', 'P', ' '] ++ ds) = some [.event (.tap (BitVec.ofNat 32 (decimalValue ds)))]) ∧
    (2 ^ 32 ≤ decimalValue ds →
      Assembler.parseLine (['T', 'I', 'C', 'K', ' '] ++ ds) = none ∧
      Assembler.parseLine (['T', 'A', 'P', ' '] ++ ds) = none) ∧
    Assembler.parseLine (['U', 'W', 'A', 'I', 'T', ' '] ++ ds) = some [.uwait (decimalValue ds)] ∧
    Assembler.parseLine (['U', 'W', 'A', 'I', 'T', '_', 'E', 'A', 'G', 'E', 'R', ' '] ++ ds) =
      some [.uwaitEager (decimalValue ds)]) ∧
  ['0', '1', '2', '3', '4', '5', '6', '7', '8', '9', 'a', 'b', 'c', 'd', 'e', 'f'].map Assembler.digit =
    (List.range 16).map some ∧
  ['A', 'B', 'C', 'D', 'E', 'F'].map Assembler.digit = [some 10, some 11, some 12, some 13, some 14, some 15] ∧
  (∀ ds : List Char, ds ≠ [] → (∀ c ∈ ds, (Assembler.digit c).isSome = true) →
    (hexValue ds < 2 ^ 32 →
      Assembler.parseLine (['T', 'I', 'C', 'K', ' ', '0', 'x'] ++ ds) =
        some [.event (.tick (BitVec.ofNat 32 (hexValue ds)))] ∧
      Assembler.parseLine (['T', 'A', 'P', ' ', '0', 'x'] ++ ds) =
        some [.event (.tap (BitVec.ofNat 32 (hexValue ds)))]) ∧
    (2 ^ 32 ≤ hexValue ds →
      Assembler.parseLine (['T', 'I', 'C', 'K', ' ', '0', 'x'] ++ ds) = none ∧
      Assembler.parseLine (['T', 'A', 'P', ' ', '0', 'x'] ++ ds) = none)) ∧
  (∀ ts ds ks : List Char, ts ≠ [] → ds ≠ [] → ks ≠ [] → (∀ c ∈ ts ++ ds ++ ks, c.isDigit = true) →
    Assembler.parseLine (['T', 'A', 'P', 'S', 'E', 'Q', ' '] ++ ts ++ [',', ' '] ++ ds ++ [',', ' '] ++ ks) =
      if decimalValue ts < 2 ^ 32 ∧ decimalValue ds < 2 ^ 32
      then some [.tapseq (BitVec.ofNat 32 (decimalValue ts)) (BitVec.ofNat 32 (decimalValue ds)) (decimalValue ks)]
      else none)
end

