-- ==== Sys2Proof/Laws/Config.lean ====
section
/-! SUPPORT. This hardware's configuration, field by field, and that it meets R9. -/

namespace Sys2Proof.Config

@[simp] theorem numTaps_eq : numTaps = 4 := rfl
@[simp] theorem kMs_eq : kMs = 600000 := rfl
@[simp] theorem kUs_eq : kUs = 600000000 := rfl
@[simp] theorem clockByte_eq : clockByte = 0xF8 := rfl
@[simp] theorem hw_ppb : hw.ppb = 24 := rfl
@[simp] theorem hw_minimumBpm : hw.minimumBpm = 400 := rfl
@[simp] theorem hw_maximumBpm : hw.maximumBpm = 3000 := rfl
@[simp] theorem hw_defaultBpm : hw.defaultBpm = 1200 := rfl
@[simp] theorem hw_blinkDuration : hw.blinkDuration = 4 := rfl
@[simp] theorem hw_maximumTapInterval : hw.maximumTapInterval = 1500 := rfl
@[simp] theorem hw_clampTapBpm : hw.clampTapBpm = false := rfl
@[simp] theorem hw_persistEnable : hw.persistEnable = true := rfl
@[simp] theorem hw_bootPersistWrite : hw.bootPersistWrite = true := rfl
@[simp] theorem hw_debugMode : hw.debugMode = false := rfl
@[simp] theorem hw_timerRestartOnApply : hw.timerRestartOnApply = true := rfl
@[simp] theorem hw_pulseCounterReset : hw.pulseCounterReset = 0 := rfl

theorem hw_legal : hw.Legal := by decide

end Sys2Proof.Config
end

