-- ==== Sys2Proof/Laws/State.lean ====
section
/-! SUPPORT. For every operation of Ops that writes the state: what each field holds after it. All hold by rfl. -/

namespace Sys2Proof.Machine

/-! ## setTapCount -/

@[simp] theorem State.setTapCount_taps (s : State) (c : BitVec 3) : (s.setTapCount c).taps = s.taps := rfl
@[simp] theorem State.setTapCount_tapCount (s : State) (c : BitVec 3) : (s.setTapCount c).tapCount = c := rfl
@[simp] theorem State.setTapCount_bpm (s : State) (c : BitVec 3) : (s.setTapCount c).bpm = s.bpm := rfl
@[simp] theorem State.setTapCount_tmrPeriod (s : State) (c : BitVec 3) : (s.setTapCount c).tmrPeriod = s.tmrPeriod := rfl
@[simp] theorem State.setTapCount_tmrElapsed (s : State) (c : BitVec 3) : (s.setTapCount c).tmrElapsed = s.tmrElapsed := rfl
@[simp] theorem State.setTapCount_tmrEn (s : State) (c : BitVec 3) : (s.setTapCount c).tmrEn = s.tmrEn := rfl
@[simp] theorem State.setTapCount_tmrMask (s : State) (c : BitVec 3) : (s.setTapCount c).tmrMask = s.tmrMask := rfl
@[simp] theorem State.setTapCount_irqPending (s : State) (c : BitVec 3) : (s.setTapCount c).irqPending = s.irqPending := rfl
@[simp] theorem State.setTapCount_pulseCounter (s : State) (c : BitVec 3) : (s.setTapCount c).pulseCounter = s.pulseCounter := rfl
@[simp] theorem State.setTapCount_ledOn (s : State) (c : BitVec 3) : (s.setTapCount c).ledOn = s.ledOn := rfl
@[simp] theorem State.setTapCount_booted (s : State) (c : BitVec 3) : (s.setTapCount c).booted = s.booted := rfl
@[simp] theorem State.setTapCount_faultOverrun (s : State) (c : BitVec 3) : (s.setTapCount c).faultOverrun = s.faultOverrun := rfl
@[simp] theorem State.setTapCount_refused (s : State) (c : BitVec 3) : (s.setTapCount c).refused = s.refused := rfl
@[simp] theorem State.setTapCount_sinkTrace (s : State) (c : BitVec 3) : (s.setTapCount c).sinkTrace = s.sinkTrace := rfl
@[simp] theorem State.setTapCount_pwriteTrace (s : State) (c : BitVec 3) : (s.setTapCount c).pwriteTrace = s.pwriteTrace := rfl
@[simp] theorem State.setTapCount_diagTrace (s : State) (c : BitVec 3) : (s.setTapCount c).diagTrace = s.diagTrace := rfl
@[simp] theorem State.setTapCount_pstore (s : State) (c : BitVec 3) : (s.setTapCount c).pstore = s.pstore := rfl
@[simp] theorem State.setTapCount_events (s : State) (c : BitVec 3) : (s.setTapCount c).events = s.events := rfl
@[simp] theorem State.setTapCount_powerCycle (s : State) (c : BitVec 3) : (s.setTapCount c).powerCycle = s.powerCycle := rfl

/-! ## writeTap -/

@[simp] theorem State.writeTap_taps (s : State) (i : BitVec 2) (v : Word) : (s.writeTap i v).taps = s.taps.write i v := rfl
@[simp] theorem State.writeTap_tapCount (s : State) (i : BitVec 2) (v : Word) : (s.writeTap i v).tapCount = s.tapCount := rfl
@[simp] theorem State.writeTap_bpm (s : State) (i : BitVec 2) (v : Word) : (s.writeTap i v).bpm = s.bpm := rfl
@[simp] theorem State.writeTap_tmrPeriod (s : State) (i : BitVec 2) (v : Word) : (s.writeTap i v).tmrPeriod = s.tmrPeriod := rfl
@[simp] theorem State.writeTap_tmrElapsed (s : State) (i : BitVec 2) (v : Word) : (s.writeTap i v).tmrElapsed = s.tmrElapsed := rfl
@[simp] theorem State.writeTap_tmrEn (s : State) (i : BitVec 2) (v : Word) : (s.writeTap i v).tmrEn = s.tmrEn := rfl
@[simp] theorem State.writeTap_tmrMask (s : State) (i : BitVec 2) (v : Word) : (s.writeTap i v).tmrMask = s.tmrMask := rfl
@[simp] theorem State.writeTap_irqPending (s : State) (i : BitVec 2) (v : Word) : (s.writeTap i v).irqPending = s.irqPending := rfl
@[simp] theorem State.writeTap_pulseCounter (s : State) (i : BitVec 2) (v : Word) : (s.writeTap i v).pulseCounter = s.pulseCounter := rfl
@[simp] theorem State.writeTap_ledOn (s : State) (i : BitVec 2) (v : Word) : (s.writeTap i v).ledOn = s.ledOn := rfl
@[simp] theorem State.writeTap_booted (s : State) (i : BitVec 2) (v : Word) : (s.writeTap i v).booted = s.booted := rfl
@[simp] theorem State.writeTap_faultOverrun (s : State) (i : BitVec 2) (v : Word) : (s.writeTap i v).faultOverrun = s.faultOverrun := rfl
@[simp] theorem State.writeTap_refused (s : State) (i : BitVec 2) (v : Word) : (s.writeTap i v).refused = s.refused := rfl
@[simp] theorem State.writeTap_sinkTrace (s : State) (i : BitVec 2) (v : Word) : (s.writeTap i v).sinkTrace = s.sinkTrace := rfl
@[simp] theorem State.writeTap_pwriteTrace (s : State) (i : BitVec 2) (v : Word) : (s.writeTap i v).pwriteTrace = s.pwriteTrace := rfl
@[simp] theorem State.writeTap_diagTrace (s : State) (i : BitVec 2) (v : Word) : (s.writeTap i v).diagTrace = s.diagTrace := rfl
@[simp] theorem State.writeTap_pstore (s : State) (i : BitVec 2) (v : Word) : (s.writeTap i v).pstore = s.pstore := rfl
@[simp] theorem State.writeTap_events (s : State) (i : BitVec 2) (v : Word) : (s.writeTap i v).events = s.events := rfl
@[simp] theorem State.writeTap_powerCycle (s : State) (i : BitVec 2) (v : Word) : (s.writeTap i v).powerCycle = s.powerCycle := rfl

/-! ## setBpm -/

@[simp] theorem State.setBpm_taps (s : State) (v : Word) : (s.setBpm v).taps = s.taps := rfl
@[simp] theorem State.setBpm_tapCount (s : State) (v : Word) : (s.setBpm v).tapCount = s.tapCount := rfl
@[simp] theorem State.setBpm_bpm (s : State) (v : Word) : (s.setBpm v).bpm = v := rfl
@[simp] theorem State.setBpm_tmrPeriod (s : State) (v : Word) : (s.setBpm v).tmrPeriod = s.tmrPeriod := rfl
@[simp] theorem State.setBpm_tmrElapsed (s : State) (v : Word) : (s.setBpm v).tmrElapsed = s.tmrElapsed := rfl
@[simp] theorem State.setBpm_tmrEn (s : State) (v : Word) : (s.setBpm v).tmrEn = s.tmrEn := rfl
@[simp] theorem State.setBpm_tmrMask (s : State) (v : Word) : (s.setBpm v).tmrMask = s.tmrMask := rfl
@[simp] theorem State.setBpm_irqPending (s : State) (v : Word) : (s.setBpm v).irqPending = s.irqPending := rfl
@[simp] theorem State.setBpm_pulseCounter (s : State) (v : Word) : (s.setBpm v).pulseCounter = s.pulseCounter := rfl
@[simp] theorem State.setBpm_ledOn (s : State) (v : Word) : (s.setBpm v).ledOn = s.ledOn := rfl
@[simp] theorem State.setBpm_booted (s : State) (v : Word) : (s.setBpm v).booted = s.booted := rfl
@[simp] theorem State.setBpm_faultOverrun (s : State) (v : Word) : (s.setBpm v).faultOverrun = s.faultOverrun := rfl
@[simp] theorem State.setBpm_refused (s : State) (v : Word) : (s.setBpm v).refused = s.refused := rfl
@[simp] theorem State.setBpm_sinkTrace (s : State) (v : Word) : (s.setBpm v).sinkTrace = s.sinkTrace := rfl
@[simp] theorem State.setBpm_pwriteTrace (s : State) (v : Word) : (s.setBpm v).pwriteTrace = s.pwriteTrace := rfl
@[simp] theorem State.setBpm_diagTrace (s : State) (v : Word) : (s.setBpm v).diagTrace = s.diagTrace := rfl
@[simp] theorem State.setBpm_pstore (s : State) (v : Word) : (s.setBpm v).pstore = s.pstore := rfl
@[simp] theorem State.setBpm_events (s : State) (v : Word) : (s.setBpm v).events = s.events := rfl
@[simp] theorem State.setBpm_powerCycle (s : State) (v : Word) : (s.setBpm v).powerCycle = s.powerCycle := rfl

/-! ## setTmrPeriod -/

@[simp] theorem State.setTmrPeriod_taps (s : State) (v : Word) : (s.setTmrPeriod v).taps = s.taps := rfl
@[simp] theorem State.setTmrPeriod_tapCount (s : State) (v : Word) : (s.setTmrPeriod v).tapCount = s.tapCount := rfl
@[simp] theorem State.setTmrPeriod_bpm (s : State) (v : Word) : (s.setTmrPeriod v).bpm = s.bpm := rfl
@[simp] theorem State.setTmrPeriod_tmrPeriod (s : State) (v : Word) : (s.setTmrPeriod v).tmrPeriod = v := rfl
@[simp] theorem State.setTmrPeriod_tmrElapsed (s : State) (v : Word) : (s.setTmrPeriod v).tmrElapsed = s.tmrElapsed := rfl
@[simp] theorem State.setTmrPeriod_tmrEn (s : State) (v : Word) : (s.setTmrPeriod v).tmrEn = s.tmrEn := rfl
@[simp] theorem State.setTmrPeriod_tmrMask (s : State) (v : Word) : (s.setTmrPeriod v).tmrMask = s.tmrMask := rfl
@[simp] theorem State.setTmrPeriod_irqPending (s : State) (v : Word) : (s.setTmrPeriod v).irqPending = s.irqPending := rfl
@[simp] theorem State.setTmrPeriod_pulseCounter (s : State) (v : Word) : (s.setTmrPeriod v).pulseCounter = s.pulseCounter := rfl
@[simp] theorem State.setTmrPeriod_ledOn (s : State) (v : Word) : (s.setTmrPeriod v).ledOn = s.ledOn := rfl
@[simp] theorem State.setTmrPeriod_booted (s : State) (v : Word) : (s.setTmrPeriod v).booted = s.booted := rfl
@[simp] theorem State.setTmrPeriod_faultOverrun (s : State) (v : Word) : (s.setTmrPeriod v).faultOverrun = s.faultOverrun := rfl
@[simp] theorem State.setTmrPeriod_refused (s : State) (v : Word) : (s.setTmrPeriod v).refused = s.refused := rfl
@[simp] theorem State.setTmrPeriod_sinkTrace (s : State) (v : Word) : (s.setTmrPeriod v).sinkTrace = s.sinkTrace := rfl
@[simp] theorem State.setTmrPeriod_pwriteTrace (s : State) (v : Word) : (s.setTmrPeriod v).pwriteTrace = s.pwriteTrace := rfl
@[simp] theorem State.setTmrPeriod_diagTrace (s : State) (v : Word) : (s.setTmrPeriod v).diagTrace = s.diagTrace := rfl
@[simp] theorem State.setTmrPeriod_pstore (s : State) (v : Word) : (s.setTmrPeriod v).pstore = s.pstore := rfl
@[simp] theorem State.setTmrPeriod_events (s : State) (v : Word) : (s.setTmrPeriod v).events = s.events := rfl
@[simp] theorem State.setTmrPeriod_powerCycle (s : State) (v : Word) : (s.setTmrPeriod v).powerCycle = s.powerCycle := rfl

/-! ## setTmrElapsed -/

@[simp] theorem State.setTmrElapsed_taps (s : State) (v : Word) : (s.setTmrElapsed v).taps = s.taps := rfl
@[simp] theorem State.setTmrElapsed_tapCount (s : State) (v : Word) : (s.setTmrElapsed v).tapCount = s.tapCount := rfl
@[simp] theorem State.setTmrElapsed_bpm (s : State) (v : Word) : (s.setTmrElapsed v).bpm = s.bpm := rfl
@[simp] theorem State.setTmrElapsed_tmrPeriod (s : State) (v : Word) : (s.setTmrElapsed v).tmrPeriod = s.tmrPeriod := rfl
@[simp] theorem State.setTmrElapsed_tmrElapsed (s : State) (v : Word) : (s.setTmrElapsed v).tmrElapsed = v := rfl
@[simp] theorem State.setTmrElapsed_tmrEn (s : State) (v : Word) : (s.setTmrElapsed v).tmrEn = s.tmrEn := rfl
@[simp] theorem State.setTmrElapsed_tmrMask (s : State) (v : Word) : (s.setTmrElapsed v).tmrMask = s.tmrMask := rfl
@[simp] theorem State.setTmrElapsed_irqPending (s : State) (v : Word) : (s.setTmrElapsed v).irqPending = s.irqPending := rfl
@[simp] theorem State.setTmrElapsed_pulseCounter (s : State) (v : Word) : (s.setTmrElapsed v).pulseCounter = s.pulseCounter := rfl
@[simp] theorem State.setTmrElapsed_ledOn (s : State) (v : Word) : (s.setTmrElapsed v).ledOn = s.ledOn := rfl
@[simp] theorem State.setTmrElapsed_booted (s : State) (v : Word) : (s.setTmrElapsed v).booted = s.booted := rfl
@[simp] theorem State.setTmrElapsed_faultOverrun (s : State) (v : Word) : (s.setTmrElapsed v).faultOverrun = s.faultOverrun := rfl
@[simp] theorem State.setTmrElapsed_refused (s : State) (v : Word) : (s.setTmrElapsed v).refused = s.refused := rfl
@[simp] theorem State.setTmrElapsed_sinkTrace (s : State) (v : Word) : (s.setTmrElapsed v).sinkTrace = s.sinkTrace := rfl
@[simp] theorem State.setTmrElapsed_pwriteTrace (s : State) (v : Word) : (s.setTmrElapsed v).pwriteTrace = s.pwriteTrace := rfl
@[simp] theorem State.setTmrElapsed_diagTrace (s : State) (v : Word) : (s.setTmrElapsed v).diagTrace = s.diagTrace := rfl
@[simp] theorem State.setTmrElapsed_pstore (s : State) (v : Word) : (s.setTmrElapsed v).pstore = s.pstore := rfl
@[simp] theorem State.setTmrElapsed_events (s : State) (v : Word) : (s.setTmrElapsed v).events = s.events := rfl
@[simp] theorem State.setTmrElapsed_powerCycle (s : State) (v : Word) : (s.setTmrElapsed v).powerCycle = s.powerCycle := rfl

/-! ## setTmrEn -/

@[simp] theorem State.setTmrEn_taps (s : State) (b : Bool) : (s.setTmrEn b).taps = s.taps := rfl
@[simp] theorem State.setTmrEn_tapCount (s : State) (b : Bool) : (s.setTmrEn b).tapCount = s.tapCount := rfl
@[simp] theorem State.setTmrEn_bpm (s : State) (b : Bool) : (s.setTmrEn b).bpm = s.bpm := rfl
@[simp] theorem State.setTmrEn_tmrPeriod (s : State) (b : Bool) : (s.setTmrEn b).tmrPeriod = s.tmrPeriod := rfl
@[simp] theorem State.setTmrEn_tmrElapsed (s : State) (b : Bool) : (s.setTmrEn b).tmrElapsed = s.tmrElapsed := rfl
@[simp] theorem State.setTmrEn_tmrEn (s : State) (b : Bool) : (s.setTmrEn b).tmrEn = b := rfl
@[simp] theorem State.setTmrEn_tmrMask (s : State) (b : Bool) : (s.setTmrEn b).tmrMask = s.tmrMask := rfl
@[simp] theorem State.setTmrEn_irqPending (s : State) (b : Bool) : (s.setTmrEn b).irqPending = s.irqPending := rfl
@[simp] theorem State.setTmrEn_pulseCounter (s : State) (b : Bool) : (s.setTmrEn b).pulseCounter = s.pulseCounter := rfl
@[simp] theorem State.setTmrEn_ledOn (s : State) (b : Bool) : (s.setTmrEn b).ledOn = s.ledOn := rfl
@[simp] theorem State.setTmrEn_booted (s : State) (b : Bool) : (s.setTmrEn b).booted = s.booted := rfl
@[simp] theorem State.setTmrEn_faultOverrun (s : State) (b : Bool) : (s.setTmrEn b).faultOverrun = s.faultOverrun := rfl
@[simp] theorem State.setTmrEn_refused (s : State) (b : Bool) : (s.setTmrEn b).refused = s.refused := rfl
@[simp] theorem State.setTmrEn_sinkTrace (s : State) (b : Bool) : (s.setTmrEn b).sinkTrace = s.sinkTrace := rfl
@[simp] theorem State.setTmrEn_pwriteTrace (s : State) (b : Bool) : (s.setTmrEn b).pwriteTrace = s.pwriteTrace := rfl
@[simp] theorem State.setTmrEn_diagTrace (s : State) (b : Bool) : (s.setTmrEn b).diagTrace = s.diagTrace := rfl
@[simp] theorem State.setTmrEn_pstore (s : State) (b : Bool) : (s.setTmrEn b).pstore = s.pstore := rfl
@[simp] theorem State.setTmrEn_events (s : State) (b : Bool) : (s.setTmrEn b).events = s.events := rfl
@[simp] theorem State.setTmrEn_powerCycle (s : State) (b : Bool) : (s.setTmrEn b).powerCycle = s.powerCycle := rfl

/-! ## setTmrMask -/

@[simp] theorem State.setTmrMask_taps (s : State) (b : Bool) : (s.setTmrMask b).taps = s.taps := rfl
@[simp] theorem State.setTmrMask_tapCount (s : State) (b : Bool) : (s.setTmrMask b).tapCount = s.tapCount := rfl
@[simp] theorem State.setTmrMask_bpm (s : State) (b : Bool) : (s.setTmrMask b).bpm = s.bpm := rfl
@[simp] theorem State.setTmrMask_tmrPeriod (s : State) (b : Bool) : (s.setTmrMask b).tmrPeriod = s.tmrPeriod := rfl
@[simp] theorem State.setTmrMask_tmrElapsed (s : State) (b : Bool) : (s.setTmrMask b).tmrElapsed = s.tmrElapsed := rfl
@[simp] theorem State.setTmrMask_tmrEn (s : State) (b : Bool) : (s.setTmrMask b).tmrEn = s.tmrEn := rfl
@[simp] theorem State.setTmrMask_tmrMask (s : State) (b : Bool) : (s.setTmrMask b).tmrMask = b := rfl
@[simp] theorem State.setTmrMask_irqPending (s : State) (b : Bool) : (s.setTmrMask b).irqPending = s.irqPending := rfl
@[simp] theorem State.setTmrMask_pulseCounter (s : State) (b : Bool) : (s.setTmrMask b).pulseCounter = s.pulseCounter := rfl
@[simp] theorem State.setTmrMask_ledOn (s : State) (b : Bool) : (s.setTmrMask b).ledOn = s.ledOn := rfl
@[simp] theorem State.setTmrMask_booted (s : State) (b : Bool) : (s.setTmrMask b).booted = s.booted := rfl
@[simp] theorem State.setTmrMask_faultOverrun (s : State) (b : Bool) : (s.setTmrMask b).faultOverrun = s.faultOverrun := rfl
@[simp] theorem State.setTmrMask_refused (s : State) (b : Bool) : (s.setTmrMask b).refused = s.refused := rfl
@[simp] theorem State.setTmrMask_sinkTrace (s : State) (b : Bool) : (s.setTmrMask b).sinkTrace = s.sinkTrace := rfl
@[simp] theorem State.setTmrMask_pwriteTrace (s : State) (b : Bool) : (s.setTmrMask b).pwriteTrace = s.pwriteTrace := rfl
@[simp] theorem State.setTmrMask_diagTrace (s : State) (b : Bool) : (s.setTmrMask b).diagTrace = s.diagTrace := rfl
@[simp] theorem State.setTmrMask_pstore (s : State) (b : Bool) : (s.setTmrMask b).pstore = s.pstore := rfl
@[simp] theorem State.setTmrMask_events (s : State) (b : Bool) : (s.setTmrMask b).events = s.events := rfl
@[simp] theorem State.setTmrMask_powerCycle (s : State) (b : Bool) : (s.setTmrMask b).powerCycle = s.powerCycle := rfl

/-! ## setIrqPending -/

@[simp] theorem State.setIrqPending_taps (s : State) (b : Bool) : (s.setIrqPending b).taps = s.taps := rfl
@[simp] theorem State.setIrqPending_tapCount (s : State) (b : Bool) : (s.setIrqPending b).tapCount = s.tapCount := rfl
@[simp] theorem State.setIrqPending_bpm (s : State) (b : Bool) : (s.setIrqPending b).bpm = s.bpm := rfl
@[simp] theorem State.setIrqPending_tmrPeriod (s : State) (b : Bool) : (s.setIrqPending b).tmrPeriod = s.tmrPeriod := rfl
@[simp] theorem State.setIrqPending_tmrElapsed (s : State) (b : Bool) : (s.setIrqPending b).tmrElapsed = s.tmrElapsed := rfl
@[simp] theorem State.setIrqPending_tmrEn (s : State) (b : Bool) : (s.setIrqPending b).tmrEn = s.tmrEn := rfl
@[simp] theorem State.setIrqPending_tmrMask (s : State) (b : Bool) : (s.setIrqPending b).tmrMask = s.tmrMask := rfl
@[simp] theorem State.setIrqPending_irqPending (s : State) (b : Bool) : (s.setIrqPending b).irqPending = b := rfl
@[simp] theorem State.setIrqPending_pulseCounter (s : State) (b : Bool) : (s.setIrqPending b).pulseCounter = s.pulseCounter := rfl
@[simp] theorem State.setIrqPending_ledOn (s : State) (b : Bool) : (s.setIrqPending b).ledOn = s.ledOn := rfl
@[simp] theorem State.setIrqPending_booted (s : State) (b : Bool) : (s.setIrqPending b).booted = s.booted := rfl
@[simp] theorem State.setIrqPending_faultOverrun (s : State) (b : Bool) : (s.setIrqPending b).faultOverrun = s.faultOverrun := rfl
@[simp] theorem State.setIrqPending_refused (s : State) (b : Bool) : (s.setIrqPending b).refused = s.refused := rfl
@[simp] theorem State.setIrqPending_sinkTrace (s : State) (b : Bool) : (s.setIrqPending b).sinkTrace = s.sinkTrace := rfl
@[simp] theorem State.setIrqPending_pwriteTrace (s : State) (b : Bool) : (s.setIrqPending b).pwriteTrace = s.pwriteTrace := rfl
@[simp] theorem State.setIrqPending_diagTrace (s : State) (b : Bool) : (s.setIrqPending b).diagTrace = s.diagTrace := rfl
@[simp] theorem State.setIrqPending_pstore (s : State) (b : Bool) : (s.setIrqPending b).pstore = s.pstore := rfl
@[simp] theorem State.setIrqPending_events (s : State) (b : Bool) : (s.setIrqPending b).events = s.events := rfl
@[simp] theorem State.setIrqPending_powerCycle (s : State) (b : Bool) : (s.setIrqPending b).powerCycle = s.powerCycle := rfl

/-! ## setPulseCounter -/

@[simp] theorem State.setPulseCounter_taps (s : State) (c : BitVec 5) : (s.setPulseCounter c).taps = s.taps := rfl
@[simp] theorem State.setPulseCounter_tapCount (s : State) (c : BitVec 5) : (s.setPulseCounter c).tapCount = s.tapCount := rfl
@[simp] theorem State.setPulseCounter_bpm (s : State) (c : BitVec 5) : (s.setPulseCounter c).bpm = s.bpm := rfl
@[simp] theorem State.setPulseCounter_tmrPeriod (s : State) (c : BitVec 5) : (s.setPulseCounter c).tmrPeriod = s.tmrPeriod := rfl
@[simp] theorem State.setPulseCounter_tmrElapsed (s : State) (c : BitVec 5) : (s.setPulseCounter c).tmrElapsed = s.tmrElapsed := rfl
@[simp] theorem State.setPulseCounter_tmrEn (s : State) (c : BitVec 5) : (s.setPulseCounter c).tmrEn = s.tmrEn := rfl
@[simp] theorem State.setPulseCounter_tmrMask (s : State) (c : BitVec 5) : (s.setPulseCounter c).tmrMask = s.tmrMask := rfl
@[simp] theorem State.setPulseCounter_irqPending (s : State) (c : BitVec 5) : (s.setPulseCounter c).irqPending = s.irqPending := rfl
@[simp] theorem State.setPulseCounter_pulseCounter (s : State) (c : BitVec 5) : (s.setPulseCounter c).pulseCounter = c := rfl
@[simp] theorem State.setPulseCounter_ledOn (s : State) (c : BitVec 5) : (s.setPulseCounter c).ledOn = s.ledOn := rfl
@[simp] theorem State.setPulseCounter_booted (s : State) (c : BitVec 5) : (s.setPulseCounter c).booted = s.booted := rfl
@[simp] theorem State.setPulseCounter_faultOverrun (s : State) (c : BitVec 5) : (s.setPulseCounter c).faultOverrun = s.faultOverrun := rfl
@[simp] theorem State.setPulseCounter_refused (s : State) (c : BitVec 5) : (s.setPulseCounter c).refused = s.refused := rfl
@[simp] theorem State.setPulseCounter_sinkTrace (s : State) (c : BitVec 5) : (s.setPulseCounter c).sinkTrace = s.sinkTrace := rfl
@[simp] theorem State.setPulseCounter_pwriteTrace (s : State) (c : BitVec 5) : (s.setPulseCounter c).pwriteTrace = s.pwriteTrace := rfl
@[simp] theorem State.setPulseCounter_diagTrace (s : State) (c : BitVec 5) : (s.setPulseCounter c).diagTrace = s.diagTrace := rfl
@[simp] theorem State.setPulseCounter_pstore (s : State) (c : BitVec 5) : (s.setPulseCounter c).pstore = s.pstore := rfl
@[simp] theorem State.setPulseCounter_events (s : State) (c : BitVec 5) : (s.setPulseCounter c).events = s.events := rfl
@[simp] theorem State.setPulseCounter_powerCycle (s : State) (c : BitVec 5) : (s.setPulseCounter c).powerCycle = s.powerCycle := rfl

/-! ## setLedOn -/

@[simp] theorem State.setLedOn_taps (s : State) (b : Bool) : (s.setLedOn b).taps = s.taps := rfl
@[simp] theorem State.setLedOn_tapCount (s : State) (b : Bool) : (s.setLedOn b).tapCount = s.tapCount := rfl
@[simp] theorem State.setLedOn_bpm (s : State) (b : Bool) : (s.setLedOn b).bpm = s.bpm := rfl
@[simp] theorem State.setLedOn_tmrPeriod (s : State) (b : Bool) : (s.setLedOn b).tmrPeriod = s.tmrPeriod := rfl
@[simp] theorem State.setLedOn_tmrElapsed (s : State) (b : Bool) : (s.setLedOn b).tmrElapsed = s.tmrElapsed := rfl
@[simp] theorem State.setLedOn_tmrEn (s : State) (b : Bool) : (s.setLedOn b).tmrEn = s.tmrEn := rfl
@[simp] theorem State.setLedOn_tmrMask (s : State) (b : Bool) : (s.setLedOn b).tmrMask = s.tmrMask := rfl
@[simp] theorem State.setLedOn_irqPending (s : State) (b : Bool) : (s.setLedOn b).irqPending = s.irqPending := rfl
@[simp] theorem State.setLedOn_pulseCounter (s : State) (b : Bool) : (s.setLedOn b).pulseCounter = s.pulseCounter := rfl
@[simp] theorem State.setLedOn_ledOn (s : State) (b : Bool) : (s.setLedOn b).ledOn = b := rfl
@[simp] theorem State.setLedOn_booted (s : State) (b : Bool) : (s.setLedOn b).booted = s.booted := rfl
@[simp] theorem State.setLedOn_faultOverrun (s : State) (b : Bool) : (s.setLedOn b).faultOverrun = s.faultOverrun := rfl
@[simp] theorem State.setLedOn_refused (s : State) (b : Bool) : (s.setLedOn b).refused = s.refused := rfl
@[simp] theorem State.setLedOn_sinkTrace (s : State) (b : Bool) : (s.setLedOn b).sinkTrace = s.sinkTrace := rfl
@[simp] theorem State.setLedOn_pwriteTrace (s : State) (b : Bool) : (s.setLedOn b).pwriteTrace = s.pwriteTrace := rfl
@[simp] theorem State.setLedOn_diagTrace (s : State) (b : Bool) : (s.setLedOn b).diagTrace = s.diagTrace := rfl
@[simp] theorem State.setLedOn_pstore (s : State) (b : Bool) : (s.setLedOn b).pstore = s.pstore := rfl
@[simp] theorem State.setLedOn_events (s : State) (b : Bool) : (s.setLedOn b).events = s.events := rfl
@[simp] theorem State.setLedOn_powerCycle (s : State) (b : Bool) : (s.setLedOn b).powerCycle = s.powerCycle := rfl

/-! ## setBooted -/

@[simp] theorem State.setBooted_taps (s : State) (b : Bool) : (s.setBooted b).taps = s.taps := rfl
@[simp] theorem State.setBooted_tapCount (s : State) (b : Bool) : (s.setBooted b).tapCount = s.tapCount := rfl
@[simp] theorem State.setBooted_bpm (s : State) (b : Bool) : (s.setBooted b).bpm = s.bpm := rfl
@[simp] theorem State.setBooted_tmrPeriod (s : State) (b : Bool) : (s.setBooted b).tmrPeriod = s.tmrPeriod := rfl
@[simp] theorem State.setBooted_tmrElapsed (s : State) (b : Bool) : (s.setBooted b).tmrElapsed = s.tmrElapsed := rfl
@[simp] theorem State.setBooted_tmrEn (s : State) (b : Bool) : (s.setBooted b).tmrEn = s.tmrEn := rfl
@[simp] theorem State.setBooted_tmrMask (s : State) (b : Bool) : (s.setBooted b).tmrMask = s.tmrMask := rfl
@[simp] theorem State.setBooted_irqPending (s : State) (b : Bool) : (s.setBooted b).irqPending = s.irqPending := rfl
@[simp] theorem State.setBooted_pulseCounter (s : State) (b : Bool) : (s.setBooted b).pulseCounter = s.pulseCounter := rfl
@[simp] theorem State.setBooted_ledOn (s : State) (b : Bool) : (s.setBooted b).ledOn = s.ledOn := rfl
@[simp] theorem State.setBooted_booted (s : State) (b : Bool) : (s.setBooted b).booted = b := rfl
@[simp] theorem State.setBooted_faultOverrun (s : State) (b : Bool) : (s.setBooted b).faultOverrun = s.faultOverrun := rfl
@[simp] theorem State.setBooted_refused (s : State) (b : Bool) : (s.setBooted b).refused = s.refused := rfl
@[simp] theorem State.setBooted_sinkTrace (s : State) (b : Bool) : (s.setBooted b).sinkTrace = s.sinkTrace := rfl
@[simp] theorem State.setBooted_pwriteTrace (s : State) (b : Bool) : (s.setBooted b).pwriteTrace = s.pwriteTrace := rfl
@[simp] theorem State.setBooted_diagTrace (s : State) (b : Bool) : (s.setBooted b).diagTrace = s.diagTrace := rfl
@[simp] theorem State.setBooted_pstore (s : State) (b : Bool) : (s.setBooted b).pstore = s.pstore := rfl
@[simp] theorem State.setBooted_events (s : State) (b : Bool) : (s.setBooted b).events = s.events := rfl
@[simp] theorem State.setBooted_powerCycle (s : State) (b : Bool) : (s.setBooted b).powerCycle = s.powerCycle := rfl

/-! ## emitSink -/

@[simp] theorem State.emitSink_taps (s : State) (b : Byte) : (s.emitSink b).taps = s.taps := rfl
@[simp] theorem State.emitSink_tapCount (s : State) (b : Byte) : (s.emitSink b).tapCount = s.tapCount := rfl
@[simp] theorem State.emitSink_bpm (s : State) (b : Byte) : (s.emitSink b).bpm = s.bpm := rfl
@[simp] theorem State.emitSink_tmrPeriod (s : State) (b : Byte) : (s.emitSink b).tmrPeriod = s.tmrPeriod := rfl
@[simp] theorem State.emitSink_tmrElapsed (s : State) (b : Byte) : (s.emitSink b).tmrElapsed = s.tmrElapsed := rfl
@[simp] theorem State.emitSink_tmrEn (s : State) (b : Byte) : (s.emitSink b).tmrEn = s.tmrEn := rfl
@[simp] theorem State.emitSink_tmrMask (s : State) (b : Byte) : (s.emitSink b).tmrMask = s.tmrMask := rfl
@[simp] theorem State.emitSink_irqPending (s : State) (b : Byte) : (s.emitSink b).irqPending = s.irqPending := rfl
@[simp] theorem State.emitSink_pulseCounter (s : State) (b : Byte) : (s.emitSink b).pulseCounter = s.pulseCounter := rfl
@[simp] theorem State.emitSink_ledOn (s : State) (b : Byte) : (s.emitSink b).ledOn = s.ledOn := rfl
@[simp] theorem State.emitSink_booted (s : State) (b : Byte) : (s.emitSink b).booted = s.booted := rfl
@[simp] theorem State.emitSink_faultOverrun (s : State) (b : Byte) : (s.emitSink b).faultOverrun = s.faultOverrun := rfl
@[simp] theorem State.emitSink_refused (s : State) (b : Byte) : (s.emitSink b).refused = s.refused := rfl
@[simp] theorem State.emitSink_sinkTrace (s : State) (b : Byte) : (s.emitSink b).sinkTrace = s.sinkTrace ++ [b] := rfl
@[simp] theorem State.emitSink_pwriteTrace (s : State) (b : Byte) : (s.emitSink b).pwriteTrace = s.pwriteTrace := rfl
@[simp] theorem State.emitSink_diagTrace (s : State) (b : Byte) : (s.emitSink b).diagTrace = s.diagTrace := rfl
@[simp] theorem State.emitSink_pstore (s : State) (b : Byte) : (s.emitSink b).pstore = s.pstore := rfl
@[simp] theorem State.emitSink_events (s : State) (b : Byte) : (s.emitSink b).events = s.events := rfl
@[simp] theorem State.emitSink_powerCycle (s : State) (b : Byte) : (s.emitSink b).powerCycle = s.powerCycle := rfl

/-! ## memWrite -/

@[simp] theorem State.memWrite_taps (s : State) (slot : Slot) (b : Byte) : (s.memWrite slot b).taps = s.taps := rfl
@[simp] theorem State.memWrite_tapCount (s : State) (slot : Slot) (b : Byte) : (s.memWrite slot b).tapCount = s.tapCount := rfl
@[simp] theorem State.memWrite_bpm (s : State) (slot : Slot) (b : Byte) : (s.memWrite slot b).bpm = s.bpm := rfl
@[simp] theorem State.memWrite_tmrPeriod (s : State) (slot : Slot) (b : Byte) : (s.memWrite slot b).tmrPeriod = s.tmrPeriod := rfl
@[simp] theorem State.memWrite_tmrElapsed (s : State) (slot : Slot) (b : Byte) : (s.memWrite slot b).tmrElapsed = s.tmrElapsed := rfl
@[simp] theorem State.memWrite_tmrEn (s : State) (slot : Slot) (b : Byte) : (s.memWrite slot b).tmrEn = s.tmrEn := rfl
@[simp] theorem State.memWrite_tmrMask (s : State) (slot : Slot) (b : Byte) : (s.memWrite slot b).tmrMask = s.tmrMask := rfl
@[simp] theorem State.memWrite_irqPending (s : State) (slot : Slot) (b : Byte) : (s.memWrite slot b).irqPending = s.irqPending := rfl
@[simp] theorem State.memWrite_pulseCounter (s : State) (slot : Slot) (b : Byte) : (s.memWrite slot b).pulseCounter = s.pulseCounter := rfl
@[simp] theorem State.memWrite_ledOn (s : State) (slot : Slot) (b : Byte) : (s.memWrite slot b).ledOn = s.ledOn := rfl
@[simp] theorem State.memWrite_booted (s : State) (slot : Slot) (b : Byte) : (s.memWrite slot b).booted = s.booted := rfl
@[simp] theorem State.memWrite_faultOverrun (s : State) (slot : Slot) (b : Byte) : (s.memWrite slot b).faultOverrun = s.faultOverrun := rfl
@[simp] theorem State.memWrite_refused (s : State) (slot : Slot) (b : Byte) : (s.memWrite slot b).refused = s.refused := rfl
@[simp] theorem State.memWrite_sinkTrace (s : State) (slot : Slot) (b : Byte) : (s.memWrite slot b).sinkTrace = s.sinkTrace := rfl
@[simp] theorem State.memWrite_pwriteTrace (s : State) (slot : Slot) (b : Byte) : (s.memWrite slot b).pwriteTrace = s.pwriteTrace ++ [(slot, b)] := rfl
@[simp] theorem State.memWrite_diagTrace (s : State) (slot : Slot) (b : Byte) : (s.memWrite slot b).diagTrace = s.diagTrace := rfl
@[simp] theorem State.memWrite_pstore (s : State) (slot : Slot) (b : Byte) : (s.memWrite slot b).pstore = s.pstore := rfl
@[simp] theorem State.memWrite_events (s : State) (slot : Slot) (b : Byte) : (s.memWrite slot b).events = s.events := rfl
@[simp] theorem State.memWrite_powerCycle (s : State) (slot : Slot) (b : Byte) : (s.memWrite slot b).powerCycle = s.powerCycle := rfl

/-! ## emitDiag -/

@[simp] theorem State.emitDiag_taps (s : State) (c : DiagCode) : (s.emitDiag c).taps = s.taps := rfl
@[simp] theorem State.emitDiag_tapCount (s : State) (c : DiagCode) : (s.emitDiag c).tapCount = s.tapCount := rfl
@[simp] theorem State.emitDiag_bpm (s : State) (c : DiagCode) : (s.emitDiag c).bpm = s.bpm := rfl
@[simp] theorem State.emitDiag_tmrPeriod (s : State) (c : DiagCode) : (s.emitDiag c).tmrPeriod = s.tmrPeriod := rfl
@[simp] theorem State.emitDiag_tmrElapsed (s : State) (c : DiagCode) : (s.emitDiag c).tmrElapsed = s.tmrElapsed := rfl
@[simp] theorem State.emitDiag_tmrEn (s : State) (c : DiagCode) : (s.emitDiag c).tmrEn = s.tmrEn := rfl
@[simp] theorem State.emitDiag_tmrMask (s : State) (c : DiagCode) : (s.emitDiag c).tmrMask = s.tmrMask := rfl
@[simp] theorem State.emitDiag_irqPending (s : State) (c : DiagCode) : (s.emitDiag c).irqPending = s.irqPending := rfl
@[simp] theorem State.emitDiag_pulseCounter (s : State) (c : DiagCode) : (s.emitDiag c).pulseCounter = s.pulseCounter := rfl
@[simp] theorem State.emitDiag_ledOn (s : State) (c : DiagCode) : (s.emitDiag c).ledOn = s.ledOn := rfl
@[simp] theorem State.emitDiag_booted (s : State) (c : DiagCode) : (s.emitDiag c).booted = s.booted := rfl
@[simp] theorem State.emitDiag_faultOverrun (s : State) (c : DiagCode) : (s.emitDiag c).faultOverrun = s.faultOverrun := rfl
@[simp] theorem State.emitDiag_refused (s : State) (c : DiagCode) : (s.emitDiag c).refused = s.refused := rfl
@[simp] theorem State.emitDiag_sinkTrace (s : State) (c : DiagCode) : (s.emitDiag c).sinkTrace = s.sinkTrace := rfl
@[simp] theorem State.emitDiag_pwriteTrace (s : State) (c : DiagCode) : (s.emitDiag c).pwriteTrace = s.pwriteTrace := rfl
@[simp] theorem State.emitDiag_diagTrace (s : State) (c : DiagCode) : (s.emitDiag c).diagTrace = s.diagTrace ++ [c] := rfl
@[simp] theorem State.emitDiag_pstore (s : State) (c : DiagCode) : (s.emitDiag c).pstore = s.pstore := rfl
@[simp] theorem State.emitDiag_events (s : State) (c : DiagCode) : (s.emitDiag c).events = s.events := rfl
@[simp] theorem State.emitDiag_powerCycle (s : State) (c : DiagCode) : (s.emitDiag c).powerCycle = s.powerCycle := rfl

/-! ## raiseOverrun -/

@[simp] theorem State.raiseOverrun_taps (s : State) : s.raiseOverrun.taps = s.taps := rfl
@[simp] theorem State.raiseOverrun_tapCount (s : State) : s.raiseOverrun.tapCount = s.tapCount := rfl
@[simp] theorem State.raiseOverrun_bpm (s : State) : s.raiseOverrun.bpm = s.bpm := rfl
@[simp] theorem State.raiseOverrun_tmrPeriod (s : State) : s.raiseOverrun.tmrPeriod = s.tmrPeriod := rfl
@[simp] theorem State.raiseOverrun_tmrElapsed (s : State) : s.raiseOverrun.tmrElapsed = s.tmrElapsed := rfl
@[simp] theorem State.raiseOverrun_tmrEn (s : State) : s.raiseOverrun.tmrEn = s.tmrEn := rfl
@[simp] theorem State.raiseOverrun_tmrMask (s : State) : s.raiseOverrun.tmrMask = s.tmrMask := rfl
@[simp] theorem State.raiseOverrun_irqPending (s : State) : s.raiseOverrun.irqPending = s.irqPending := rfl
@[simp] theorem State.raiseOverrun_pulseCounter (s : State) : s.raiseOverrun.pulseCounter = s.pulseCounter := rfl
@[simp] theorem State.raiseOverrun_ledOn (s : State) : s.raiseOverrun.ledOn = s.ledOn := rfl
@[simp] theorem State.raiseOverrun_booted (s : State) : s.raiseOverrun.booted = s.booted := rfl
@[simp] theorem State.raiseOverrun_faultOverrun (s : State) : s.raiseOverrun.faultOverrun = true := rfl
@[simp] theorem State.raiseOverrun_refused (s : State) : s.raiseOverrun.refused = s.refused := rfl
@[simp] theorem State.raiseOverrun_sinkTrace (s : State) : s.raiseOverrun.sinkTrace = s.sinkTrace := rfl
@[simp] theorem State.raiseOverrun_pwriteTrace (s : State) : s.raiseOverrun.pwriteTrace = s.pwriteTrace := rfl
@[simp] theorem State.raiseOverrun_diagTrace (s : State) : s.raiseOverrun.diagTrace = s.diagTrace := rfl
@[simp] theorem State.raiseOverrun_pstore (s : State) : s.raiseOverrun.pstore = s.pstore := rfl
@[simp] theorem State.raiseOverrun_events (s : State) : s.raiseOverrun.events = s.events := rfl
@[simp] theorem State.raiseOverrun_powerCycle (s : State) : s.raiseOverrun.powerCycle = s.powerCycle := rfl

/-! ## refuse -/

@[simp] theorem State.refuse_taps (s : State) (r : RefuseReason) : (s.refuse r).taps = s.taps := rfl
@[simp] theorem State.refuse_tapCount (s : State) (r : RefuseReason) : (s.refuse r).tapCount = s.tapCount := rfl
@[simp] theorem State.refuse_bpm (s : State) (r : RefuseReason) : (s.refuse r).bpm = s.bpm := rfl
@[simp] theorem State.refuse_tmrPeriod (s : State) (r : RefuseReason) : (s.refuse r).tmrPeriod = s.tmrPeriod := rfl
@[simp] theorem State.refuse_tmrElapsed (s : State) (r : RefuseReason) : (s.refuse r).tmrElapsed = s.tmrElapsed := rfl
@[simp] theorem State.refuse_tmrEn (s : State) (r : RefuseReason) : (s.refuse r).tmrEn = s.tmrEn := rfl
@[simp] theorem State.refuse_tmrMask (s : State) (r : RefuseReason) : (s.refuse r).tmrMask = s.tmrMask := rfl
@[simp] theorem State.refuse_irqPending (s : State) (r : RefuseReason) : (s.refuse r).irqPending = s.irqPending := rfl
@[simp] theorem State.refuse_pulseCounter (s : State) (r : RefuseReason) : (s.refuse r).pulseCounter = s.pulseCounter := rfl
@[simp] theorem State.refuse_ledOn (s : State) (r : RefuseReason) : (s.refuse r).ledOn = s.ledOn := rfl
@[simp] theorem State.refuse_booted (s : State) (r : RefuseReason) : (s.refuse r).booted = s.booted := rfl
@[simp] theorem State.refuse_faultOverrun (s : State) (r : RefuseReason) : (s.refuse r).faultOverrun = s.faultOverrun := rfl
@[simp] theorem State.refuse_refused (s : State) (r : RefuseReason) : (s.refuse r).refused = true := rfl
@[simp] theorem State.refuse_sinkTrace (s : State) (r : RefuseReason) : (s.refuse r).sinkTrace = s.sinkTrace := rfl
@[simp] theorem State.refuse_pwriteTrace (s : State) (r : RefuseReason) : (s.refuse r).pwriteTrace = s.pwriteTrace := rfl
@[simp] theorem State.refuse_diagTrace (s : State) (r : RefuseReason) : (s.refuse r).diagTrace = s.diagTrace := rfl
@[simp] theorem State.refuse_pstore (s : State) (r : RefuseReason) : (s.refuse r).pstore = s.pstore := rfl
@[simp] theorem State.refuse_events (s : State) (r : RefuseReason) : (s.refuse r).events = s.events := rfl
@[simp] theorem State.refuse_powerCycle (s : State) (r : RefuseReason) : (s.refuse r).powerCycle = s.powerCycle := rfl

/-! ## presentEvent -/

@[simp] theorem State.presentEvent_taps (s : State) (w : EventWord) : (s.presentEvent w).taps = s.taps := rfl
@[simp] theorem State.presentEvent_tapCount (s : State) (w : EventWord) : (s.presentEvent w).tapCount = s.tapCount := rfl
@[simp] theorem State.presentEvent_bpm (s : State) (w : EventWord) : (s.presentEvent w).bpm = s.bpm := rfl
@[simp] theorem State.presentEvent_tmrPeriod (s : State) (w : EventWord) : (s.presentEvent w).tmrPeriod = s.tmrPeriod := rfl
@[simp] theorem State.presentEvent_tmrElapsed (s : State) (w : EventWord) : (s.presentEvent w).tmrElapsed = s.tmrElapsed := rfl
@[simp] theorem State.presentEvent_tmrEn (s : State) (w : EventWord) : (s.presentEvent w).tmrEn = s.tmrEn := rfl
@[simp] theorem State.presentEvent_tmrMask (s : State) (w : EventWord) : (s.presentEvent w).tmrMask = s.tmrMask := rfl
@[simp] theorem State.presentEvent_irqPending (s : State) (w : EventWord) : (s.presentEvent w).irqPending = s.irqPending := rfl
@[simp] theorem State.presentEvent_pulseCounter (s : State) (w : EventWord) : (s.presentEvent w).pulseCounter = s.pulseCounter := rfl
@[simp] theorem State.presentEvent_ledOn (s : State) (w : EventWord) : (s.presentEvent w).ledOn = s.ledOn := rfl
@[simp] theorem State.presentEvent_booted (s : State) (w : EventWord) : (s.presentEvent w).booted = s.booted := rfl
@[simp] theorem State.presentEvent_faultOverrun (s : State) (w : EventWord) : (s.presentEvent w).faultOverrun = s.faultOverrun := rfl
@[simp] theorem State.presentEvent_refused (s : State) (w : EventWord) : (s.presentEvent w).refused = s.refused := rfl
@[simp] theorem State.presentEvent_sinkTrace (s : State) (w : EventWord) : (s.presentEvent w).sinkTrace = s.sinkTrace := rfl
@[simp] theorem State.presentEvent_pwriteTrace (s : State) (w : EventWord) : (s.presentEvent w).pwriteTrace = s.pwriteTrace := rfl
@[simp] theorem State.presentEvent_diagTrace (s : State) (w : EventWord) : (s.presentEvent w).diagTrace = s.diagTrace := rfl
@[simp] theorem State.presentEvent_pstore (s : State) (w : EventWord) : (s.presentEvent w).pstore = s.pstore := rfl
@[simp] theorem State.presentEvent_events (s : State) (w : EventWord) : (s.presentEvent w).events = w :: s.events := rfl
@[simp] theorem State.presentEvent_powerCycle (s : State) (w : EventWord) : (s.presentEvent w).powerCycle = s.powerCycle := rfl

/-! ## withStore -/

@[simp] theorem State.withStore_taps (s : State) (m l : Byte) : (s.withStore m l).taps = s.taps := rfl
@[simp] theorem State.withStore_tapCount (s : State) (m l : Byte) : (s.withStore m l).tapCount = s.tapCount := rfl
@[simp] theorem State.withStore_bpm (s : State) (m l : Byte) : (s.withStore m l).bpm = s.bpm := rfl
@[simp] theorem State.withStore_tmrPeriod (s : State) (m l : Byte) : (s.withStore m l).tmrPeriod = s.tmrPeriod := rfl
@[simp] theorem State.withStore_tmrElapsed (s : State) (m l : Byte) : (s.withStore m l).tmrElapsed = s.tmrElapsed := rfl
@[simp] theorem State.withStore_tmrEn (s : State) (m l : Byte) : (s.withStore m l).tmrEn = s.tmrEn := rfl
@[simp] theorem State.withStore_tmrMask (s : State) (m l : Byte) : (s.withStore m l).tmrMask = s.tmrMask := rfl
@[simp] theorem State.withStore_irqPending (s : State) (m l : Byte) : (s.withStore m l).irqPending = s.irqPending := rfl
@[simp] theorem State.withStore_pulseCounter (s : State) (m l : Byte) : (s.withStore m l).pulseCounter = s.pulseCounter := rfl
@[simp] theorem State.withStore_ledOn (s : State) (m l : Byte) : (s.withStore m l).ledOn = s.ledOn := rfl
@[simp] theorem State.withStore_booted (s : State) (m l : Byte) : (s.withStore m l).booted = s.booted := rfl
@[simp] theorem State.withStore_faultOverrun (s : State) (m l : Byte) : (s.withStore m l).faultOverrun = s.faultOverrun := rfl
@[simp] theorem State.withStore_refused (s : State) (m l : Byte) : (s.withStore m l).refused = s.refused := rfl
@[simp] theorem State.withStore_sinkTrace (s : State) (m l : Byte) : (s.withStore m l).sinkTrace = s.sinkTrace := rfl
@[simp] theorem State.withStore_pwriteTrace (s : State) (m l : Byte) : (s.withStore m l).pwriteTrace = s.pwriteTrace := rfl
@[simp] theorem State.withStore_diagTrace (s : State) (m l : Byte) : (s.withStore m l).diagTrace = s.diagTrace := rfl
@[simp] theorem State.withStore_pstore (s : State) (m l : Byte) : (s.withStore m l).pstore = Memory.write (Memory.write s.pstore 0 m) 1 l := rfl
@[simp] theorem State.withStore_events (s : State) (m l : Byte) : (s.withStore m l).events = s.events := rfl
@[simp] theorem State.withStore_powerCycle (s : State) (m l : Byte) : (s.withStore m l).powerCycle = s.powerCycle := rfl

@[simp] theorem State.enterIrq_eq (s : State) : s.enterIrq = s.setIrqPending false := rfl
@[simp] theorem State.returnIrq_eq (s : State) : s.returnIrq = s := rfl

end Sys2Proof.Machine
end

