-- ==== Sys2Proof/Laws/Tempo.lean ====
section
/-! SUPPORT. What `applyTempo` and `recompute` do, as one record each, and the tempo a full buffer gives. -/

namespace Sys2Proof.Machine

@[simp] theorem toWord_toNat (n : Nat) : (toWord n).toNat = n % 2 ^ 32 := by simp [toWord]

theorem toWord_toNat_of_lt {n : Nat} (h : n < 2 ^ 32) : (toWord n).toNat = n := by
  rw [toWord_toNat, Nat.mod_eq_of_lt h]

/-- The two bytes of a persistence write (R139). -/
theorem persistWrite_eq (bpm : Word) (s : State) :
    persistWrite bpm s =
      { s with pwriteTrace := s.pwriteTrace ++ [(.msb, bpm.extractLsb' 8 8), (.lsb, bpm.extractLsb' 0 8)] } := by
  simp [persistWrite, State.memWrite]

/-- Everything `applyTempo` does (R135). -/
theorem applyTempo_eq (p : Config.Params) (bpm : Word) (persist : Bool) (s : State) :
    applyTempo p bpm persist s =
      { s with
        bpm := bpm
        tmrPeriod := toWord (periodOf p bpm.toNat)
        tmrElapsed := if p.timerRestartOnApply then 0 else s.tmrElapsed
        tmrMask := false
        pwriteTrace := s.pwriteTrace ++
          if persist && p.persistEnable then [(.msb, bpm.extractLsb' 8 8), (.lsb, bpm.extractLsb' 0 8)] else [] } := by
  simp only [applyTempo, persistWrite_eq, reprogramTimer, restartTimer]
  split <;> split <;> simp_all [State.setBpm, State.setTmrMask, State.setTmrPeriod, State.setTmrElapsed]

theorem bpmOfAverage_eq_none (avg : Nat) : bpmOfAverage avg = none ↔ avg = 0 ∨ Config.kMs < avg := by
  have hk : Config.kMs = 600000 := rfl
  have hd : Config.kMs / avg = 0 ↔ avg = 0 ∨ Config.kMs < avg := Nat.div_eq_zero_iff
  unfold bpmOfAverage
  split
  · simp [*]
  · split <;> simp_all

theorem bpmOfAverage_eq_some {avg : Nat} (h : avg ≠ 0) (h' : avg ≤ Config.kMs) :
    bpmOfAverage avg = some (Config.kMs / avg) := by
  have hd : Config.kMs / avg = 0 ↔ avg = 0 ∨ Config.kMs < avg := Nat.div_eq_zero_iff
  rw [bpmOfAverage, if_neg h, if_neg (by omega)]

/-- With the clamp off the quotient is the tempo (R134). -/
theorem clampBpm_off {p : Config.Params} (h : p.clampTapBpm = false) (n : Nat) : clampBpm p n = n := by
  rw [clampBpm, h, if_neg (by decide)]

/-- The high persisted byte of a tempo given as a number (R139). -/
theorem toWord_msb {n : Nat} (h : n < 2 ^ 32) : (toWord n).extractLsb' 8 8 = BitVec.ofNat 8 (n / 256) := by
  apply BitVec.eq_of_toNat_eq
  rw [BitVec.extractLsb'_toNat, toWord_toNat_of_lt h, Nat.shiftRight_eq_div_pow]
  simp

/-- The low persisted byte of a tempo given as a number (R139). -/
theorem toWord_lsb {n : Nat} (h : n < 2 ^ 32) : (toWord n).extractLsb' 0 8 = BitVec.ofNat 8 n := by
  apply BitVec.eq_of_toNat_eq
  rw [BitVec.extractLsb'_toNat, toWord_toNat_of_lt h]
  simp

/-- A rejected recomputation emits DIAG(2) and nothing else (R133). -/
theorem recompute_rejected (p : Config.Params) (s : State)
    (h : s.tapAverage = 0 ∨ Config.kMs < s.tapAverage) : recompute p s = s.emitDiag diagZeroInterval := by
  simp only [recompute, (bpmOfAverage_eq_none _).2 h]

/-- A recomputation that is not rejected applies and persists the tempo (R131). -/
theorem recompute_applied (p : Config.Params) (s : State) (h : s.tapAverage ≠ 0) (h' : s.tapAverage ≤ Config.kMs) :
    recompute p s = applyTempo p (toWord (clampBpm p (Config.kMs / s.tapAverage))) true s := by
  simp only [recompute, bpmOfAverage_eq_some h h']

/-- A recomputation is rejected or applied, and never anything else. -/
theorem recompute_cases (p : Config.Params) (s : State) :
    ((s.tapAverage = 0 ∨ Config.kMs < s.tapAverage) ∧ recompute p s = s.emitDiag diagZeroInterval) ∨
    (s.tapAverage ≠ 0 ∧ s.tapAverage ≤ Config.kMs ∧
      recompute p s = applyTempo p (toWord (clampBpm p (Config.kMs / s.tapAverage))) true s) := by
  by_cases h : s.tapAverage = 0 ∨ Config.kMs < s.tapAverage
  · exact .inl ⟨h, recompute_rejected p s h⟩
  · have h0 : s.tapAverage ≠ 0 := by omega
    have h1 : s.tapAverage ≤ Config.kMs := by omega
    exact .inr ⟨h0, h1, recompute_applied p s h0 h1⟩

end Sys2Proof.Machine
end

