-- ==== Sys2Proof/Laws/Boot.lean ====
section
/-! SUPPORT. What BOOT does, as one record, and the range of what it loads. -/

namespace Sys2Proof.Machine

/-- The stored value is big-endian (R52). -/
theorem State.persistedBpm_toNat (s : State) :
    s.persistedBpm.toNat = 256 * (s.storeByte .msb).toNat + (s.storeByte .lsb).toNat := by
  have := (s.storeByte .lsb).isLt
  simp only [State.persistedBpm, BitVec.toNat_append]
  rw [← Nat.shiftLeft_add_eq_or_of_lt (by simpa using this), Nat.shiftLeft_eq]
  omega

theorem inWindow_iff (p : Config.Params) (v : BitVec 16) :
    inWindow p v = true ↔ p.minimumBpm ≤ v.toNat ∧ v.toNat ≤ p.maximumBpm := by simp [inWindow]

/-- Everything BOOT does (R190, R191, R192, R135). -/
theorem bootEvent_eq (p : Config.Params) (s : State) :
    bootEvent p s =
      { s with
        bpm := loadedBpm p s
        tmrPeriod := toWord (periodOf p (loadedBpm p s).toNat)
        tmrElapsed := if p.timerRestartOnApply then 0 else s.tmrElapsed
        tmrMask := false
        tmrEn := true
        booted := true
        diagTrace := s.diagTrace ++ if p.persistEnable && !inWindow p s.persistedBpm then [diagBadPersisted] else []
        pwriteTrace := s.pwriteTrace ++
          if p.bootPersistWrite && p.persistEnable then
            [(.msb, (loadedBpm p s).extractLsb' 8 8), (.lsb, (loadedBpm p s).extractLsb' 0 8)] else [] } := by
  simp only [bootEvent, applyTempo_eq, loadDiag]
  cases h : p.persistEnable && !inWindow p s.persistedBpm <;>
    simp [State.setTmrEn, State.setBooted, State.emitDiag]

/-- What BOOT loads lies in the window, under R9 (R191). -/
theorem loadedBpm_inWindow {p : Config.Params} (hp : p.Legal) (s : State) :
    p.minimumBpm ≤ (loadedBpm p s).toNat ∧ (loadedBpm p s).toNat ≤ p.maximumBpm := by
  obtain ⟨_, _, _, _, _, hmin, hmax, hcap, _⟩ := hp
  unfold loadedBpm
  split
  · rename_i h
    simp only [Bool.and_eq_true, inWindow_iff] at h
    have := s.persistedBpm.isLt
    rw [BitVec.toNat_setWidth, Nat.mod_eq_of_lt (by omega)]
    exact h.2
  · rw [toWord_toNat_of_lt (by omega)]
    exact ⟨hmin, hmax⟩

end Sys2Proof.Machine
end

