-- ==== Sys2Proof/Laws/PulseClock.lean ====
section
/-! SUPPORT. What `timerStep`, UTICK and ISR do: one record per outcome. -/

namespace Sys2Proof.Machine

theorem State.expires_iff (s : State) : s.expires = true ↔ s.tmrPeriod.toNat ≤ s.tmrElapsed.toNat + 1 := by
  simp [State.expires]

theorem timerStep_counts {s : State} (h : s.tmrElapsed.toNat + 1 < s.tmrPeriod.toNat) :
    timerStep s = { s with tmrElapsed := toWord (s.tmrElapsed.toNat + 1) } := by
  have : s.expires = false := by simp [State.expires]; omega
  simp [timerStep, this, State.setTmrElapsed]

theorem timerStep_expires {s : State} (h : s.tmrPeriod.toNat ≤ s.tmrElapsed.toNat + 1) (hi : s.irqPending = false) :
    timerStep s = { s with tmrElapsed := 0, irqPending := true } := by
  simp [timerStep, (State.expires_iff s).2 h, expire, hi, State.setTmrElapsed, State.setIrqPending]

theorem timerStep_overruns {s : State} (h : s.tmrPeriod.toNat ≤ s.tmrElapsed.toNat + 1) (hi : s.irqPending = true) :
    timerStep s =
      { s with tmrElapsed := 0, faultOverrun := true, diagTrace := s.diagTrace ++ [diagOverrun] } := by
  simp [timerStep, (State.expires_iff s).2 h, expire, hi, State.setTmrElapsed, State.raiseOverrun, State.emitDiag]

/-- What `ledUpdate` leaves in LED_ON: the second test wins (R166). -/
theorem ledUpdate_eq (p : Config.Params) (c : BitVec 5) (s : State) :
    ledUpdate p c s =
      { s with ledOn := if c.toNat = p.blinkDuration then false else if c.toNat = 0 then true else s.ledOn } := by
  unfold ledUpdate
  split <;> split <;> rfl

/-- Everything ISR does (R163). -/
theorem isrEvent_eq (p : Config.Params) (s : State) :
    isrEvent p s =
      { s with
        irqPending := false
        sinkTrace := s.sinkTrace ++ if p.debugMode then [] else [Config.clockByte]
        pulseCounter := nextPulse p s.pulseCounter
        ledOn := if (nextPulse p s.pulseCounter).toNat = p.blinkDuration then false
          else if (nextPulse p s.pulseCounter).toNat = 0 then true else s.ledOn } := by
  cases h : p.debugMode <;>
    simp [isrEvent, emitClock, h, ledUpdate_eq, State.setIrqPending, State.emitSink, State.setPulseCounter]

theorem nextPulse_toNat (p : Config.Params) (c : BitVec 5) (h : 0 < p.ppb) (h' : p.ppb ≤ 32) :
    (nextPulse p c).toNat = (c.toNat + 1) % p.ppb := by
  have := Nat.mod_lt (c.toNat + 1) h
  simp only [nextPulse, BitVec.toNat_ofNat]
  exact Nat.mod_eq_of_lt (by omega)

end Sys2Proof.Machine
end

