-- ==== Sys2Proof/Laws/TapBuffer.lean ====
section
/-! SUPPORT. What `checkTimeout` and `recordTap` do: one lemma per outcome, and one that says there is no other. -/

namespace Sys2Proof.Machine

@[simp] theorem Taps.read_zero (t : Taps) : t.read 0#2 = t.t0 := rfl
@[simp] theorem Taps.read_one (t : Taps) : t.read 1#2 = t.t1 := rfl
@[simp] theorem Taps.read_two (t : Taps) : t.read 2#2 = t.t2 := rfl
@[simp] theorem Taps.read_three (t : Taps) : t.read 3#2 = t.t3 := rfl
@[simp] theorem Taps.write_zero (t : Taps) (v : Word) : t.write 0#2 v = { t with t0 := v } := rfl
@[simp] theorem Taps.write_one (t : Taps) (v : Word) : t.write 1#2 v = { t with t1 := v } := rfl
@[simp] theorem Taps.write_two (t : Taps) (v : Word) : t.write 2#2 v = { t with t2 := v } := rfl
@[simp] theorem Taps.write_three (t : Taps) (v : Word) : t.write 3#2 v = { t with t3 := v } := rfl

theorem sub32_toNat (a b : Word) : (sub32 a b).toNat = (a.toNat + 2 ^ 32 - b.toNat) % 2 ^ 32 := by
  simp only [sub32, BitVec.toNat_sub]
  congr 1
  have := b.isLt
  omega

/-- The count as one of its eight values. -/
theorem State.tapCount_cases (s : State) :
    s.tapCount = 0 ∨ s.tapCount = 1 ∨ s.tapCount = 2 ∨ s.tapCount = 3 ∨ 4 ≤ s.tapCount.toNat := by
  have h : ∀ c : BitVec 3, c = 0 ∨ c = 1 ∨ c = 2 ∨ c = 3 ∨ 4 ≤ c.toNat := by decide
  exact h s.tapCount

theorem State.lastTap_of_one {s : State} (h : s.tapCount = 1) : s.lastTap = s.taps.t0 := by
  simp [State.lastTap, h, Taps.read]
theorem State.lastTap_of_two {s : State} (h : s.tapCount = 2) : s.lastTap = s.taps.t1 := by
  simp [State.lastTap, h, Taps.read]
theorem State.lastTap_of_three {s : State} (h : s.tapCount = 3) : s.lastTap = s.taps.t2 := by
  simp [State.lastTap, h, Taps.read]

/-- Everything `checkTimeout` does (R104). -/
theorem checkTimeout_eq (p : Config.Params) (now : Word) (s : State) :
    checkTimeout p now s =
      if s.timedOut p now then { s with tapCount := 0, diagTrace := s.diagTrace ++ [diagTimeout] } else s := rfl

theorem checkTimeout_kept {p : Config.Params} {now : Word} {s : State} (h : s.timedOut p now = false) :
    checkTimeout p now s = s := by simp [checkTimeout, h]

theorem checkTimeout_cleared {p : Config.Params} {now : Word} {s : State} (h : s.timedOut p now = true) :
    checkTimeout p now s = { s with tapCount := 0, diagTrace := s.diagTrace ++ [diagTimeout] } := by
  rw [checkTimeout_eq, if_pos h]

theorem not_timedOut_of_empty (p : Config.Params) (now : Word) {s : State} (h : s.tapCount = 0) :
    s.timedOut p now = false := by simp [State.timedOut, State.active, h]

theorem not_timedOut_of_full (p : Config.Params) (now : Word) {s : State} (h : 4 ≤ s.tapCount.toNat) :
    s.timedOut p now = false := by
  have : ¬ s.tapCount.toNat < 4 := by omega
  simp [State.timedOut, State.active, State.hasRoom, this]

theorem timedOut_of_active (p : Config.Params) (now : Word) {s : State}
    (h0 : 0 < s.tapCount.toNat) (h4 : s.tapCount.toNat < 4) :
    s.timedOut p now = decide (p.maximumTapInterval < (s.gapTo now).toNat) := by
  simp [State.timedOut, State.active, State.hasRoom, h0, h4]

/-- With no room there is no effect (R108). -/
theorem recordTap_full (p : Config.Params) (now : Word) {s : State} (h : 4 ≤ s.tapCount.toNat) :
    recordTap p now s = s := by
  have : ¬ s.tapCount.toNat < 4 := by omega
  simp [recordTap, State.hasRoom, this]

theorem recordTap_first (p : Config.Params) (now : Word) {s : State} (h : s.tapCount = 0) :
    recordTap p now s = { s with taps := { s.taps with t0 := now }, tapCount := 1 } := by
  simp [recordTap, appendTap, State.hasRoom, State.full, State.freeIndex, h, State.writeTap, State.setTapCount, Taps.write]

theorem recordTap_second (p : Config.Params) (now : Word) {s : State} (h : s.tapCount = 1) :
    recordTap p now s = { s with taps := { s.taps with t1 := now }, tapCount := 2 } := by
  simp [recordTap, appendTap, State.hasRoom, State.full, State.freeIndex, h, State.writeTap, State.setTapCount, Taps.write]

theorem recordTap_third (p : Config.Params) (now : Word) {s : State} (h : s.tapCount = 2) :
    recordTap p now s = { s with taps := { s.taps with t2 := now }, tapCount := 3 } := by
  simp [recordTap, appendTap, State.hasRoom, State.full, State.freeIndex, h, State.writeTap, State.setTapCount, Taps.write]

/-- The tap that fills the buffer: recompute over all four entries, then clear (R108). -/
theorem recordTap_fourth (p : Config.Params) (now : Word) {s : State} (h : s.tapCount = 3) :
    recordTap p now s =
      clearTaps (recompute p { s with taps := { s.taps with t3 := now }, tapCount := 4 }) := by
  simp [recordTap, appendTap, State.hasRoom, State.full, State.freeIndex, h, State.writeTap, State.setTapCount, Taps.write]

end Sys2Proof.Machine
end

