-- ==== Sys2Proof/Laws/Exec.lean ====
section
/-! SUPPORT. `exec` and `step` in terms of one function on states: every event has a next state, and it is `eventStep` of
this hardware's configuration. -/

namespace Sys2Proof.Machine

/-- Every event answers a next state (R200, R202), the one `eventStep` gives. -/
theorem exec_eq (i : Instr) (s : State) : exec i s = .next (eventStep Config.hw i s) := by
  cases i <;> rfl

theorem exec_next_iff {i : Instr} {s t : State} : exec i s = .next t ↔ t = eventStep Config.hw i s := by
  rw [exec_eq, Host.Outcome.next.injEq]
  exact eq_comm

theorem eventStep_enabled {p : Config.Params} {i : Instr} {s : State} (h : enabled i s = true) :
    eventStep p i s = eventBody p i s := by simp [eventStep, h]

theorem eventStep_refused {p : Config.Params} {i : Instr} {s : State} (h : enabled i s = false) :
    eventStep p i s = { s with refused := true } := by simp [eventStep, h, State.refuse]

/-- A step takes the first event word: it runs the event, or refuses the word (R74, R76). -/
theorem step_cons {s : State} {w : EventWord} {ws : List EventWord} (h : s.events = w :: ws) :
    step s = runWord w { s with events := ws } := by simp [step, fetchEvent, h]

/-- All that a step can be: the trace has ended, a word was refused, or an event was run. -/
theorem step_cases (s : State) :
    (s.events = [] ∧ step s = .refused .noEvent) ∨
    (∃ w ws r, s.events = w :: ws ∧ decode w = .error r ∧ step s = .next { s with events := ws, refused := true }) ∨
    (∃ w ws i, s.events = w :: ws ∧ decode w = .ok i ∧
      step s = .next (eventStep Config.hw i { s with events := ws })) := by
  cases h : s.events with
  | nil => exact .inl ⟨rfl, by simp [step, fetchEvent, h]⟩
  | cons w ws =>
    rw [step_cons h, runWord]
    cases hd : decode w with
    | error r => exact .inr (.inl ⟨w, ws, r, rfl, hd, rfl⟩)
    | ok i => exact .inr (.inr ⟨w, ws, i, rfl, hd, exec_eq i _⟩)

end Sys2Proof.Machine
end

