-- ==== Sys2Proof/Laws/Safety.lean ====
section
/-! SUPPORT. The terms of Safety beside the operations of the model: the same gap, the same timeout, the same average. -/

namespace Sys2Proof.Safety

open Sys2Proof.Machine

theorem sub32_eq_msBetween (a b : Word) : (sub32 b a).toNat = msBetween a b := sub32_toNat b a

theorem persistedBpm_eq_storedBpm (s : State) : s.persistedBpm.toNat = storedBpm s := s.persistedBpm_toNat

theorem storedBpm_lt (s : State) : storedBpm s < 2 ^ 16 := by
  rw [← persistedBpm_eq_storedBpm]
  exact s.persistedBpm.isLt

/-- Where a sequence is active, the tap that `checkTimeout` looks at is the newest one. -/
theorem lastTap_eq_newestTap {s : State} (h0 : 0 < s.tapCount.toNat) (h4 : s.tapCount.toNat < 4) :
    s.lastTap = newestTap s := by
  rcases s.tapCount_cases with h | h | h | h | h
  · simp [h] at h0
  · simp [State.lastTap_of_one h, newestTap, h]
  · simp [State.lastTap_of_two h, newestTap, h]
  · simp [State.lastTap_of_three h, newestTap, h]
  · omega

/-- The timeout of R104 under any configuration. -/
theorem timedOut_iff (p : Config.Params) (s : State) (now : Word) :
    s.timedOut p now = true ↔
      0 < s.tapCount.toNat ∧ s.tapCount.toNat < 4 ∧ p.maximumTapInterval < msBetween (newestTap s) now := by
  rcases Nat.lt_or_ge 0 s.tapCount.toNat with h0 | h0
  · rcases Nat.lt_or_ge s.tapCount.toNat 4 with h4 | h4
    · simp [timedOut_of_active p now h0 h4, State.gapTo, sub32_eq_msBetween, lastTap_eq_newestTap h0 h4, h0, h4]
    · simp only [not_timedOut_of_full p now h4, Bool.false_eq_true, false_iff]
      omega
  · have hc : s.tapCount = 0 := BitVec.eq_of_toNat_eq (by simpa using h0)
    simp [not_timedOut_of_empty p now hc, hc]

/-- On this hardware a sequence times out exactly when it is stale. -/
theorem timedOut_hw_iff (s : State) (now : Word) : s.timedOut Config.hw now = true ↔ Stale s now :=
  timedOut_iff Config.hw s now

/-- The average of the buffer that the fourth tap fills. -/
theorem tapAverage_of_fourth (s : State) (now : Word) (c : BitVec 3) :
    ({ s with taps := { s.taps with t3 := now }, tapCount := c } : State).tapAverage = averageTo s now := by
  simp [State.tapAverage, State.tapSpan, averageTo, sub32_eq_msBetween]

end Sys2Proof.Safety
end

