-- ==== Sys2Proof/Laws/Events.lean ====
section
/-! SUPPORT. Everything TAP and UTICK can do, as one case list each; what every tick and tap keeps; and the one induction
over a step: what taking an event word, a refusal and every enabled body keep, a step keeps. -/

namespace Sys2Proof.Machine

open Sys2Proof.Safety

/-- The period is stored as it is: no configuration takes it out of 32 bits (R130). -/
theorem toWord_periodOf_toNat (p : Config.Params) (bpm : Nat) :
    (toWord (periodOf p bpm)).toNat = Config.kUs / bpm / p.ppb := by
  have h : Config.kUs / bpm / p.ppb ≤ Config.kUs := Nat.le_trans (Nat.div_le_self _ _) (Nat.div_le_self _ _)
  have hk : Config.kUs < 2 ^ 32 := by decide
  rw [periodOf, toWord_toNat_of_lt (by omega)]

/-- Everything TAP can do (R106): time out, store the first, second or third tap, be rejected or set the tempo with the
fourth, or find no room. -/
theorem tapEvent_cases (p : Config.Params) (now : Word) (s : State) :
    (s.timedOut p now = true ∧ tapEvent p now s =
      { s with taps := { s.taps with t0 := now }, tapCount := 1, diagTrace := s.diagTrace ++ [diagTimeout] }) ∨
    (s.timedOut p now = false ∧ s.tapCount = 0 ∧
      tapEvent p now s = { s with taps := { s.taps with t0 := now }, tapCount := 1 }) ∨
    (s.timedOut p now = false ∧ s.tapCount = 1 ∧
      tapEvent p now s = { s with taps := { s.taps with t1 := now }, tapCount := 2 }) ∨
    (s.timedOut p now = false ∧ s.tapCount = 2 ∧
      tapEvent p now s = { s with taps := { s.taps with t2 := now }, tapCount := 3 }) ∨
    (s.timedOut p now = false ∧ s.tapCount = 3 ∧ (averageTo s now = 0 ∨ Config.kMs < averageTo s now) ∧
      tapEvent p now s = { s with
        taps := { s.taps with t3 := now }
        tapCount := 0
        diagTrace := s.diagTrace ++ [diagZeroInterval] }) ∨
    (s.timedOut p now = false ∧ s.tapCount = 3 ∧ (1 ≤ averageTo s now ∧ averageTo s now ≤ Config.kMs) ∧
      tapEvent p now s =
        clearTaps (applyTempo p (toWord (clampBpm p (Config.kMs / averageTo s now))) true
          { s with taps := { s.taps with t3 := now }, tapCount := 4 })) ∨
    (s.timedOut p now = false ∧ 4 ≤ s.tapCount.toNat ∧ tapEvent p now s = s) := by
  cases ht : s.timedOut p now
  · rw [tapEvent, checkTimeout_kept ht]
    rcases s.tapCount_cases with h | h | h | h | h
    · rw [recordTap_first _ _ h]; simp [h]
    · rw [recordTap_second _ _ h]; simp [h]
    · rw [recordTap_third _ _ h]; simp [h]
    · rw [recordTap_fourth _ _ h]
      rcases recompute_cases p { s with taps := { s.taps with t3 := now }, tapCount := 4 } with ⟨h1, h2⟩ | ⟨h1, h1', h2⟩
      · rw [tapAverage_of_fourth] at h1
        exact .inr (.inr (.inr (.inr (.inl ⟨rfl, h, h1, by rw [h2]; rfl⟩))))
      · rw [tapAverage_of_fourth] at h1 h1'
        exact .inr (.inr (.inr (.inr (.inr (.inl ⟨rfl, h, ⟨by omega, h1'⟩, by rw [h2, tapAverage_of_fourth]⟩)))))
    · rw [recordTap_full _ _ h]; simp [h]
  · left
    rw [tapEvent, checkTimeout_cleared ht, recordTap_first _ _ rfl]
    exact ⟨rfl, rfl⟩

/-- Everything UTICK can do (R160, R161). -/
theorem utickEvent_cases (p : Config.Params) (s : State) :
    (s.tmrEn = false ∧ utickEvent p s = s) ∨
    (s.tmrEn = true ∧ s.tmrElapsed.toNat + 1 < s.tmrPeriod.toNat ∧
      utickEvent p s = { s with tmrElapsed := toWord (s.tmrElapsed.toNat + 1) }) ∨
    (s.tmrEn = true ∧ s.tmrPeriod.toNat ≤ s.tmrElapsed.toNat + 1 ∧ s.irqPending = false ∧
      utickEvent p s = { s with tmrElapsed := 0, irqPending := true }) ∨
    (s.tmrEn = true ∧ s.tmrPeriod.toNat ≤ s.tmrElapsed.toNat + 1 ∧ s.irqPending = true ∧
      utickEvent p s =
        { s with tmrElapsed := 0, faultOverrun := true, diagTrace := s.diagTrace ++ [diagOverrun] }) := by
  cases he : s.tmrEn
  · simp [utickEvent, he]
  · rcases Nat.lt_or_ge (s.tmrElapsed.toNat + 1) s.tmrPeriod.toNat with h | h
    · rw [utickEvent, if_pos he, timerStep_counts h]; simp [h, he]
    · cases hi : s.irqPending
      · rw [utickEvent, if_pos he, timerStep_expires h hi]; simp [h, he]
      · rw [utickEvent, if_pos he, timerStep_overruns h hi]; simp [h, he, hi]

/-- What taking a word from the trace, a refusal, and every enabled body keep, every step keeps. -/
theorem step_keeps {P : State → Prop}
    (hword : ∀ s ws, P s → P { s with events := ws })
    (hrefuse : ∀ s, P s → P { s with refused := true })
    (hbody : ∀ i s, enabled i s = true → P s → P (eventBody Config.hw i s)) {s t : State}
    (hs : P s) (ht : step s = .next t) : P t := by
  rcases step_cases s with h | ⟨w, ws, r, _, _, h⟩ | ⟨w, ws, i, _, _, h⟩
  · rw [h.2] at ht; cases ht
  · rw [h] at ht; cases ht
    exact hrefuse _ (hword _ ws hs)
  · rw [h] at ht; cases ht
    rw [eventStep]
    split
    · exact hbody _ _ ‹_› (hword _ ws hs)
    · exact hrefuse _ (hword _ ws hs)

/-- A run over two lists is the run over the second from where the first ends. -/
theorem runEvents_append (p : Config.Params) (is js : List Instr) (s : State) :
    runEvents p (is ++ js) s = runEvents p js (runEvents p is s) := by
  induction is generalizing s with
  | nil => rfl
  | cons i is ih => exact ih (eventStep p i s)

end Sys2Proof.Machine
end

