-- ==== Sys2Proof/Laws/Assembler.lean ====
section
/-! SUPPORT. What the assembler reads: comments, words between blanks and commas, and numbers in decimal and hexadecimal;
and the expansion of a list of items. -/

namespace Sys2Proof.Machine.Assembler

open Sys2Proof.Safety

/-- A character that belongs to a word: no blank, no comma, no start of a comment. -/
abbrev Plain (c : Char) : Prop := c ≠ ' ' ∧ c ≠ ',' ∧ c ≠ ';'

theorem dropComment_semicolon (line comment : List Char) : dropComment (line ++ ';' :: comment) = dropComment line := by
  induction line with
  | nil => rfl
  | cons c cs ih => simp only [List.cons_append, dropComment, ih]

theorem dropComment_of_no_semicolon {cs : List Char} (h : ∀ c ∈ cs, c ≠ ';') : dropComment cs = cs := by
  induction cs with
  | nil => rfl
  | cons c cs ih =>
    rw [dropComment, if_neg (h c List.mem_cons_self), ih fun x hx => h x (List.mem_cons_of_mem _ hx)]

theorem tokens_space (word cs : List Char) : tokens word (' ' :: cs) = closeToken word (tokens [] cs) := by
  simp [tokens]

theorem tokens_comma (word cs : List Char) : tokens word (',' :: cs) = closeToken word ([','] :: tokens [] cs) := by
  simp [tokens]

/-- The characters of a word are read into it. -/
theorem tokens_plain {cs : List Char} (h : ∀ c ∈ cs, Plain c) (word rest : List Char) :
    tokens word (cs ++ rest) = tokens (word ++ cs) rest := by
  induction cs generalizing word with
  | nil => simp
  | cons c cs ih =>
    have hc := h c List.mem_cons_self
    rw [List.cons_append, tokens, if_neg hc.1, if_neg hc.2.1, ih fun x hx => h x (List.mem_cons_of_mem _ hx)]
    simp

/-- The last word of a line. -/
theorem tokens_last {cs : List Char} (hne : cs ≠ []) (h : ∀ c ∈ cs, Plain c) : tokens [] cs = [cs] := by
  have := tokens_plain h [] []
  rw [List.append_nil] at this
  rw [this]
  cases cs with
  | nil => exact absurd rfl hne
  | cons c cs => rfl

/-- A line of a mnemonic, a blank and one operand. -/
theorem parseLine_operand {m cs : List Char} (hm : m ≠ []) (hmp : ∀ c ∈ m, Plain c) (hne : cs ≠ [])
    (h : ∀ c ∈ cs, Plain c) :
    parseLine (m ++ ' ' :: cs) = (itemOf [m, cs]).map fun it => [it] := by
  have hd : dropComment (m ++ ' ' :: cs) = m ++ ' ' :: cs := by
    refine dropComment_of_no_semicolon fun c hc => ?_
    rcases List.mem_append.1 hc with hc | hc
    · exact (hmp c hc).2.2
    · rcases List.mem_cons.1 hc with rfl | hc
      · decide
      · exact (h c hc).2.2
  have ht : tokens [] (m ++ ' ' :: cs) = [m, cs] := by
    rw [tokens_plain hmp, tokens_space, tokens_last hne h]
    cases m with
    | nil => exact absurd rfl hm
    | cons c m => rfl
  simp only [parseLine, hd, ht]

theorem digits_eq_foldl {base : Nat} {cs : List Char} {f : Char → Nat} (acc : Nat)
    (h : ∀ c ∈ cs, digit c = some (f c) ∧ f c < base) :
    digits base acc cs = some (cs.foldl (fun n c => base * n + f c) acc) := by
  induction cs generalizing acc with
  | nil => rfl
  | cons c cs ih =>
    have hc := h c List.mem_cons_self
    simp only [digits, hc.1, hc.2, if_true, List.foldl_cons]
    exact ih _ fun x hx => h x (List.mem_cons_of_mem _ hx)

theorem digit_of_isDigit {c : Char} (h : c.isDigit = true) : digit c = some (c.toNat - 48) ∧ c.toNat - 48 < 10 := by
  have hr : 48 ≤ c.toNat ∧ c.toNat ≤ 57 := by
    simp only [Char.isDigit, Bool.and_eq_true, decide_eq_true_eq, ge_iff_le, UInt32.le_iff_toNat_le] at h
    exact h
  exact ⟨by simp [digit, hr], by omega⟩

theorem digit_lt {c : Char} {d : Nat} (h : digit c = some d) : d < 16 := by
  simp only [digit] at h
  split_ifs at h <;> cases h <;> omega

theorem plain_of_digit {c : Char} (h : (digit c).isSome = true) : Plain c := by
  refine ⟨?_, ?_, ?_⟩ <;> rintro rfl <;> exact absurd h (by decide)

theorem plain_of_isDigit {c : Char} (h : c.isDigit = true) : Plain c :=
  plain_of_digit (by rw [(digit_of_isDigit h).1]; rfl)

/-- A decimal number has the value of its digits (R78). -/
theorem number_decimal {cs : List Char} (hne : cs ≠ []) (h : ∀ c ∈ cs, c.isDigit = true) :
    number cs = some (decimalValue cs) := by
  have hd : digits 10 0 cs = some (decimalValue cs) :=
    digits_eq_foldl (f := fun c => c.toNat - 48) 0 fun c hc => digit_of_isDigit (h c hc)
  unfold number
  split
  · exact absurd rfl hne
  · exact absurd (h 'x' (by simp)) (by decide)
  · exact absurd (h 'x' (by simp)) (by decide)
  · exact hd

/-- A hexadecimal number has the value of its digits (R78). -/
theorem number_hex {cs : List Char} (hne : cs ≠ []) (h : ∀ c ∈ cs, (digit c).isSome = true) :
    number ('0' :: 'x' :: cs) = some (hexValue cs) := by
  have hd : digits 16 0 cs = some (hexValue cs) := by
    refine digits_eq_foldl (f := fun c => (digit c).getD 0) 0 fun c hc => ?_
    obtain ⟨d, hd⟩ := Option.isSome_iff_exists.1 (h c hc)
    simp [hd, digit_lt hd]
  cases cs with
  | nil => exact absurd rfl hne
  | cons c cs => exact hd

/-- A time below 2^32 is taken as it is, a larger one is rejected (R78). -/
theorem wordNumber_of_number {cs : List Char} {n : Nat} (h : number cs = some n) :
    wordNumber cs = if n < 2 ^ 32 then some (BitVec.ofNat 32 n) else none := by
  simp [wordNumber, h]

/-- A list of items expands item after item, from the state in which each stands (R79). -/
theorem expandAll_append (p : Config.Params) (items rest : List Item) (s : State) :
    expandAll p (items ++ rest) s =
      expandAll p items s ++ expandAll p rest (runEvents p (expandAll p items s) s) := by
  induction items generalizing s with
  | nil => rfl
  | cons it its ih =>
    simp only [List.cons_append, expandAll, ih, List.append_assoc]
    rw [runEvents_append]

/-- The k taps of a sequence, each time mod 2^32 (R79). -/
theorem tapSeq_eq_map (t0 d : Word) (k : Nat) :
    tapSeq t0 d k = (List.range k).map fun j => .tap (BitVec.ofNat 32 (t0.toNat + j * d.toNat)) := by
  induction k generalizing t0 with
  | zero => rfl
  | succ k ih =>
    rw [tapSeq, ih, List.range_succ_eq_map, List.map_cons, List.map_map]
    congr 1
    · simp
    · refine List.map_congr_left fun j _ => ?_
      simp only [Function.comp_apply, Instr.tap.injEq]
      apply BitVec.eq_of_toNat_eq
      simp only [BitVec.toNat_ofNat, BitVec.toNat_add]
      rw [Nat.succ_mul, Nat.mod_add_mod]
      congr 1
      omega

end Sys2Proof.Machine.Assembler
end

