-- ==== Sys2Proof/Laws/Encoding.lean ====
section
/-! SUPPORT. The fields of an event word as numbers, and that splitting and joining undo each other. -/

namespace Sys2Proof

theorem splitWord_op_toNat (w : EventWord) : (splitWord w).op.toNat = w.toNat / 2 ^ 32 := by
  have := w.isLt
  simp only [splitWord, BitVec.extractLsb'_toNat, Nat.shiftRight_eq_div_pow]
  omega

theorem splitWord_arg_toNat (w : EventWord) : (splitWord w).arg.toNat = w.toNat % 2 ^ 32 := by
  simp [splitWord]

theorem joinWord_toNat (f : EvFields) : (joinWord f).toNat = 2 ^ 32 * f.op.toNat + f.arg.toNat := by
  have := f.arg.isLt
  simp only [joinWord, BitVec.toNat_append]
  rw [← Nat.shiftLeft_add_eq_or_of_lt (by simpa using this), Nat.shiftLeft_eq]
  omega

theorem joinWord_splitWord (w : EventWord) : joinWord (splitWord w) = w := by
  apply BitVec.eq_of_toNat_eq
  rw [joinWord_toNat, splitWord_op_toNat, splitWord_arg_toNat]
  omega

theorem splitWord_joinWord (f : EvFields) : splitWord (joinWord f) = f := by
  have h1 := splitWord_op_toNat (joinWord f)
  have h2 := splitWord_arg_toNat (joinWord f)
  have := f.arg.isLt
  rw [joinWord_toNat] at h1 h2
  have e1 : (splitWord (joinWord f)).op = f.op := BitVec.eq_of_toNat_eq (by omega)
  have e2 : (splitWord (joinWord f)).arg = f.arg := BitVec.eq_of_toNat_eq (by omega)
  obtain ⟨op, arg⟩ := f
  simp_all [splitWord]

end Sys2Proof
end

