-- ==== Sys2Proof/Laws/Memory.lean ====
section
/-! SUPPORT. The persistence store: reading after writing, and the canonical form, which every write keeps. -/

namespace Sys2Proof.Machine

theorem Memory.read_write_same (m : Memory) (a : Nat) (v : Byte) :
    Memory.read (Memory.write m a v) a = some v := by
  induction m with
  | nil => simp [Memory.write, Memory.read]
  | cons c m ih =>
    obtain ⟨b, u⟩ := c
    simp only [Memory.write]
    split
    · simp [Memory.read]
    · split
      · simp [Memory.read]
      · simp [Memory.read, *]

theorem Memory.read_write_other (m : Memory) (a b : Nat) (v : Byte) (h : b ≠ a) :
    Memory.read (Memory.write m a v) b = Memory.read m b := by
  induction m with
  | nil => simp [Memory.write, Memory.read, h]
  | cons c m ih =>
    obtain ⟨d, u⟩ := c
    simp only [Memory.write]
    split
    · simp [Memory.read, h]
    · split
      · subst_vars; simp [Memory.read, h]
      · simp [Memory.read, ih]

theorem Memory.risesAbove_write (lo : Option Nat) (m : Memory) (a : Nat) (v : Byte)
    (ha : a < 2) (hlo : ∀ b ∈ lo, b < a) (hm : Memory.risesAbove lo m = true) :
    Memory.risesAbove lo (Memory.write m a v) = true := by
  induction m generalizing lo with
  | nil => simpa [Memory.write, Memory.risesAbove, ha] using hlo
  | cons c m ih =>
    obtain ⟨d, u⟩ := c
    simp only [Memory.risesAbove, Bool.and_eq_true, decide_eq_true_eq] at hm
    obtain ⟨⟨hd, hlod⟩, hrest⟩ := hm
    simp only [Memory.write]
    split
    · simp only [Memory.risesAbove, Bool.and_eq_true, decide_eq_true_eq]
      refine ⟨⟨ha, hlo⟩, ⟨hd, ?_⟩, hrest⟩
      simpa using ‹a < d›
    · split
      · subst_vars
        simp only [Memory.risesAbove, Bool.and_eq_true, decide_eq_true_eq]
        exact ⟨⟨hd, hlod⟩, hrest⟩
      · simp only [Memory.risesAbove, Bool.and_eq_true, decide_eq_true_eq]
        refine ⟨⟨hd, hlod⟩, ih _ ?_ hrest⟩
        simp only [Option.mem_def, Option.some.injEq, forall_eq']
        omega

/-- Listing a byte for slot 0 or 1 keeps the canonical form. -/
theorem Memory.wf_write (m : Memory) (a : Nat) (v : Byte) (ha : a < 2) (hm : m.wf = true) :
    Memory.wf (Memory.write m a v) = true :=
  Memory.risesAbove_write none m a v ha (by simp) hm

theorem Slot.addr_lt (slot : Slot) : slot.addr < 2 := by cases slot <;> decide

theorem State.withStore_wf (s : State) (m l : Byte) (h : s.pstore.wf = true) : (s.withStore m l).pstore.wf = true :=
  Memory.wf_write _ _ _ (by decide) (Memory.wf_write _ _ _ (by decide) h)

theorem State.reset_pstore_wf : State.reset.pstore.wf = true := rfl

@[simp] theorem State.withStore_storeByte_msb (s : State) (m l : Byte) : (s.withStore m l).storeByte .msb = m := by
  simp [State.storeByte, Slot.addr, Memory.read_write_other, Memory.read_write_same]

@[simp] theorem State.withStore_storeByte_lsb (s : State) (m l : Byte) : (s.withStore m l).storeByte .lsb = l := by
  simp [State.storeByte, Slot.addr, Memory.read_write_same]

/-- What the store presents depends on its cells and on the power cycle alone. -/
theorem State.storeByte_congr {s t : State} (hp : t.pstore = s.pstore) (hc : t.powerCycle = s.powerCycle) (slot : Slot) :
    t.storeByte slot = s.storeByte slot := by
  simp [State.storeByte, hp, hc]

end Sys2Proof.Machine
end

