-- ==== Sys2Proof/Laws/PerInstr.lean ====
section
/-! SUPPORT. Statements for all events, one lemma per constructor: the fields of an event's word pass both checks of
R74 and R76. -/

namespace Sys2Proof.Laws.FieldsWellFormed

/-- The fields that encode the event are well formed (R70, R73, R76). -/
def Statement (i : Instr) : Prop := i.fields.wellFormed = true

theorem boot : Statement .boot := rfl
theorem tick (now : Word) : Statement (.tick now) := rfl
theorem tap (now : Word) : Statement (.tap now) := rfl
theorem utick : Statement .utick := rfl
theorem isr : Statement .isr := rfl

end Sys2Proof.Laws.FieldsWellFormed
end

