-- ==== Sys2Proof/Tests/Slice0.lean ====
section
/-! SUPPORT. The model's own tests. Words are written out from the table of R73; expected results are those of
95_test_vectors. Then one witness for the hypotheses of each statement that has any. -/

namespace Sys2Proof.Tests

open Sys2Proof.Machine Sys2Proof.Safety

/-! ## Well-formedness and decoding -/

theorem test_reserved_op_is_ill_formed : EvFields.opKnown { op := 0x06, arg := 0 } = false := by decide
theorem test_op_zero_is_ill_formed : EvFields.opKnown { op := 0x00, arg := 0 } = false := by decide
theorem test_isr_with_operand_is_ill_formed : EvFields.argLegal { op := 0x05, arg := 1 } = false := by decide
theorem test_tap_with_operand_is_well_formed : EvFields.wellFormed { op := 0x03, arg := 1500 } = true := by decide

/-- OP = 0000_0001, ARG = 0 (R73). -/
theorem test_decode_boot : decodeTableWord 40 0b0000000100000000000000000000000000000000 = some .boot := by decide
/-- OP = 0000_0010, ARG = 2501 = 1001_1100_0101 (R73, T3). -/
theorem test_decode_tick : decodeTableWord 40 0b0000001000000000000000000000100111000101 = some (.tick 2501) := by decide
/-- OP = 0000_0011, ARG = 1500 = 101_1101_1100 (R70: "TAP at 1500 ms is 0x03000005DC"). -/
theorem test_decode_tap : decodeTableWord 40 0b0000001100000000000000000000010111011100 = some (.tap 1500) := by decide
/-- OP = 0000_0100, ARG = 0 (R73). -/
theorem test_decode_utick : decodeTableWord 40 0b0000010000000000000000000000000000000000 = some .utick := by decide
/-- OP = 0000_0101, ARG = 0 (R73). -/
theorem test_decode_isr : decodeTableWord 40 0b0000010100000000000000000000000000000000 = some .isr := by decide
theorem test_encode_tap : encode (.tap 1500) = 0x03000005DC := by decide
theorem test_decode_nonzero_arg : decode 0x0480000000 = .error .nonzeroArg := by rfl
theorem test_decode_reserved : decode 0x0600000000 = .error .reservedOp := by rfl

/-! ## One step -/

/-- The next state, if there is one. -/
def after (o : Host.Outcome State Fault Refusal) : Option State :=
  match o with
  | .next s => some s
  | .fault _ => none
  | .refused _ => none

/-- The booted state of 95_test_vectors 2.2. -/
def booted : State :=
  { State.reset with
    booted := true, bpm := 1200, tmrPeriod := 20833, tmrEn := true, pwriteTrace := [(.msb, 0x04), (.lsb, 0xB0)] }

/-- The booted state with three taps at 0, 500 and 1000 ms. -/
def threeTaps : State := { booted with taps := { t0 := 0, t1 := 500, t2 := 1000, t3 := 0 }, tapCount := 3 }

/-- The booted state with a pending interrupt, the timer one microsecond short of expiry, and the counter at 23. -/
def pendingAtEnd : State := { booted with irqPending := true, tmrPeriod := 8333, tmrElapsed := 8332, pulseCounter := 23 }

/-- Vector B1. -/
theorem test_boot_valid :
    (after (exec .boot (State.reset.withStore 0x04 0xB0))).map (fun s => (s.bpm, s.tmrPeriod, s.tmrEn, s.diagTrace)) =
      some (1200, 20833, true, []) := by decide
/-- Vector B5. -/
theorem test_boot_rejects_3001 :
    (after (exec .boot (State.reset.withStore 0x0B 0xB9))).map (fun s => (s.bpm, s.pwriteTrace, s.diagTrace)) =
      some (1200, [(.msb, 0x04), (.lsb, 0xB0)], [3]) := by decide
/-- Vectors T2 and T3. -/
theorem test_tick_boundary :
    (after (exec (.tick 2500) threeTaps)).map State.tapCount = some 3 ∧
    (after (exec (.tick 2501) threeTaps)).map (fun s => (s.tapCount, s.diagTrace)) = some (0, [1]) := by decide
/-- Vector T6: `now` behind the newest tap. -/
theorem test_tick_backwards :
    (after (exec (.tick 4000) { booted with taps := { t0 := 5000, t1 := 0, t2 := 0, t3 := 0 }, tapCount := 1 })).map
      State.tapCount = some 0 := by decide
/-- Vector T9. -/
theorem test_tap_late :
    (after (exec (.tap 2501) threeTaps)).map (fun s => (s.taps.t0, s.taps.t1, s.tapCount, s.diagTrace, s.bpm)) =
      some (2501, 500, 1, [1], 1200) := by decide
/-- Vector T10. -/
theorem test_tap_fourth :
    (after (exec (.tap 2500) threeTaps)).map (fun s => (s.bpm, s.tmrPeriod, s.tapCount, s.pwriteTrace)) =
      some (720, 34722, 0, [(.msb, 0x04), (.lsb, 0xB0), (.msb, 0x02), (.lsb, 0xD0)]) := by decide
/-- Vector C3. -/
theorem test_utick_expires :
    (after (exec .utick { booted with tmrElapsed := 20832 })).map (fun s => (s.tmrElapsed, s.irqPending)) =
      some (0, true) := by decide
/-- Vector C4. -/
theorem test_utick_overruns :
    (after (exec .utick pendingAtEnd)).map (fun s => (s.tmrElapsed, s.irqPending, s.faultOverrun, s.diagTrace)) =
      some (0, true, true, [4]) := by decide
/-- Vector C5. -/
theorem test_isr_wraps :
    (after (exec .isr pendingAtEnd)).map (fun s => (s.irqPending, s.sinkTrace, s.pulseCounter, s.ledOn)) =
      some (false, [0xF8], 0, true) := by decide
/-- Vector C6. -/
theorem test_isr_led_off :
    (after (exec .isr { pendingAtEnd with pulseCounter := 3, ledOn := true })).map (fun s => (s.pulseCounter, s.ledOn)) =
      some (4, false) := by decide
/-- Program P8, first line: TAP before BOOT is refused, and the machine goes on. -/
theorem test_step_refuses_early_tap :
    (after (step (State.reset.withFetchWord 40 0x0300000005))).map (fun s => (s.refused, s.tapCount, s.events)) =
      some (true, 0, []) := by decide
/-- BOOT placed as the first event after reset runs, whatever the store presents. -/
theorem test_step_boots : (after (step (State.reset.withFetchWord 40 0x0100000000))).map State.booted = some true := by
  decide

/-! ## Witnesses: the hypotheses of every statement that has any can be met together, each clause for itself -/

theorem booted_invariants : Invariants Config.hw booted :=
  ⟨by decide, by decide, fun _ => by decide, fun _ _ => by decide, rfl, by decide, fun h => by simp at h⟩

theorem booted_gaps : TapGaps Config.hw booted := ⟨by decide, fun h => absurd h (by decide), fun h => absurd h (by decide)⟩

theorem booted_range : TempoRange booted :=
  ⟨fun _ => by decide, fun _ => by decide, fun _ => by decide, fun _ => by decide⟩

theorem booted_beat : BeatPhase booted := ⟨rfl, rfl⟩

theorem booted_quiet : QuietBeforeBoot booted :=
  ⟨fun h => absurd h (by decide), fun h => absurd h (by decide), fun h => absurd h (by decide),
    fun h => absurd h (by decide), fun h => absurd h (by decide)⟩

/-- A booted state with one event to come, so that `step` answers a next state. -/
def bootedWithEvent : State := { booted with events := [0x0400000000] }

theorem step_bootedWithEvent :
    step bootedWithEvent = .next (eventStep Config.hw .utick { bootedWithEvent with events := [] }) := rfl

theorem witness_StepRunsTheDecodedEvent :
    bootedWithEvent.events = (0x0400000000 : EventWord) :: [] ∧ decode 0x0400000000 = .ok .utick := ⟨rfl, rfl⟩

/-- OP = 0, OP = 6 and a non-zero ARG, each at the edge of its range. -/
theorem witness_StepRefusesWordsWithNoMeaning :
    (0x00FFFFFFFF : EventWord).toNat / 2 ^ 32 = 0 ∧ 6 ≤ (0x0600000000 : EventWord).toNat / 2 ^ 32 ∧
    (0x0500000001 : EventWord).toNat / 2 ^ 32 = 5 ∧ (0x0500000001 : EventWord).toNat % 2 ^ 32 ≠ 0 ∧
    ({ booted with events := [0x0600000000] } : State).events = [0x0600000000] := by decide

theorem witness_StepStopsWhenTheTraceEnds : State.reset.events = [] := rfl

theorem witness_EventsThatAreNotEnabledAreRefused :
    booted.booted = true ∧ State.reset.booted = false ∧ booted.irqPending = false ∧ State.reset.tmrEn = false := by decide

/-- Both ends of the window. -/
theorem witness_BootAppliesAStoredTempo :
    (State.reset.withStore 0x01 0x90).booted = false ∧ storedBpm (State.reset.withStore 0x01 0x90) = 400 ∧
    storedBpm (State.reset.withStore 0x0B 0xB8) = 3000 := by decide

/-- One below and one above the window. -/
theorem witness_BootReplacesAnInvalidTempo :
    (State.reset.withStore 0x01 0x8F).booted = false ∧ storedBpm (State.reset.withStore 0x01 0x8F) = 399 ∧
    storedBpm (State.reset.withStore 0x0B 0xB9) = 3001 := by decide

theorem witness_TickClearsAStaleSequence :
    threeTaps.booted = true ∧ Stale threeTaps 2501 ∧ ¬ Stale threeTaps 2500 := by decide

theorem witness_LateTapStartsANewSequence : threeTaps.booted = true ∧ Stale threeTaps 2501 := by decide

theorem witness_TapIsStoredAtTheNextFreeEntry :
    booted.booted = true ∧ ¬ Stale booted 7 ∧ booted.tapCount = 0 ∧
    ¬ Stale { booted with tapCount := 1 } 1500 ∧ ¬ Stale { booted with tapCount := 2 } 1500 := by decide

/-- Averages 1 and 1500 (vectors M9 and M5), and the quotient's last good average, reached in a state that no run reaches. -/
theorem witness_FourthTapSetsTheTempo :
    threeTaps.booted = true ∧ threeTaps.tapCount = 3 ∧
    ¬ Stale { threeTaps with taps := { t0 := 0, t1 := 1, t2 := 2, t3 := 0 } } 3 ∧
    averageTo { threeTaps with taps := { t0 := 0, t1 := 1, t2 := 2, t3 := 0 } } 3 = 1 ∧
    averageTo { threeTaps with taps := { t0 := 0, t1 := 1500, t2 := 3000, t3 := 0 } } 4500 = 1500 ∧
    ¬ Stale { threeTaps with taps := { t0 := 0, t1 := 0, t2 := 1799000, t3 := 0 } } 1800002 ∧
    averageTo { threeTaps with taps := { t0 := 0, t1 := 0, t2 := 1799000, t3 := 0 } } 1800002 = 600000 := by decide

/-- Average 0 (vector M7), and the first average whose quotient is 0. -/
theorem witness_FourthTapWithNoTempoIsRejected :
    threeTaps.booted = true ∧ threeTaps.tapCount = 3 ∧
    ¬ Stale { threeTaps with taps := { t0 := 5000, t1 := 5001, t2 := 5001, t3 := 0 } } 5002 ∧
    averageTo { threeTaps with taps := { t0 := 5000, t1 := 5001, t2 := 5001, t3 := 0 } } 5002 = 0 ∧
    ¬ Stale { threeTaps with taps := { t0 := 0, t1 := 0, t2 := 1799000, t3 := 0 } } 1800003 ∧
    600000 < averageTo { threeTaps with taps := { t0 := 0, t1 := 0, t2 := 1799000, t3 := 0 } } 1800003 := by decide

theorem witness_TapWithAFullBufferHasNoEffect :
    ({ booted with tapCount := 4 } : State).booted = true ∧ 4 ≤ ({ booted with tapCount := 4 } : State).tapCount.toNat := by
  decide

/-- Two short of the period, one short of it, and one short of it with the interrupt pending. -/
theorem witness_UtickCountsAndExpires :
    booted.tmrEn = true ∧ (20831 : Word).toNat + 1 < booted.tmrPeriod.toNat ∧
    booted.tmrPeriod.toNat ≤ (20832 : Word).toNat + 1 ∧ booted.irqPending = false ∧
    pendingAtEnd.tmrEn = true ∧ pendingAtEnd.tmrPeriod.toNat ≤ pendingAtEnd.tmrElapsed.toNat + 1 ∧
    pendingAtEnd.irqPending = true := by decide

theorem witness_IsrEmitsOnePulse : pendingAtEnd.irqPending = true := by decide

theorem witness_Frames :
    exec (.tick 9) booted = .next (eventStep Config.hw (.tick 9) booted) ∧
    exec (.tap 9) booted = .next (eventStep Config.hw (.tap 9) booted) ∧ booted.tapCount ≠ 3 ∧
    exec .boot State.reset = .next (eventStep Config.hw .boot State.reset) ∧
    exec .utick booted = .next (eventStep Config.hw .utick booted) ∧
    exec .isr pendingAtEnd = .next (eventStep Config.hw .isr pendingAtEnd) := ⟨rfl, rfl, by decide, rfl, rfl, rfl⟩

theorem witness_StepKeepsTheInvariants :
    Invariants Config.hw bootedWithEvent ∧ ∃ t, step bootedWithEvent = .next t :=
  ⟨⟨booted_invariants.1, booted_invariants.2, booted_invariants.3, booted_invariants.4, booted_invariants.5,
    booted_invariants.6⟩, _, step_bootedWithEvent⟩

theorem witness_InvariantsUnderEveryLegalConfiguration : Config.hw.Legal ∧ Invariants Config.hw booted :=
  ⟨by decide, booted_invariants⟩

theorem witness_StepKeepsTheTempoInRange :
    TapGaps Config.hw bootedWithEvent ∧ TempoRange bootedWithEvent ∧ ∃ t, step bootedWithEvent = .next t :=
  ⟨⟨booted_gaps.1, booted_gaps.2, booted_gaps.3⟩,
    ⟨booted_range.1, booted_range.2, booted_range.3, booted_range.4⟩, _, step_bootedWithEvent⟩

theorem witness_StepKeepsTheBeatPhase : BeatPhase bootedWithEvent ∧ ∃ t, step bootedWithEvent = .next t :=
  ⟨⟨booted_beat.1, booted_beat.2⟩, _, step_bootedWithEvent⟩

/-- Before boot, with a TAP that comes too early, and after it. -/
theorem witness_NothingIsEmittedBeforeBoot :
    (let s : State := State.reset.withFetchWord 40 0x0300000005
     QuietBeforeBoot s ∧ s.booted = false ∧ ∃ t, step s = .next t) ∧
    QuietBeforeBoot bootedWithEvent ∧ ∃ t, step bootedWithEvent = .next t :=
  ⟨⟨⟨fun _ => rfl, fun _ => rfl, fun _ => rfl, fun _ => rfl, fun _ => rfl⟩, rfl, _, rfl⟩,
    ⟨booted_quiet.1, booted_quiet.2, booted_quiet.3, booted_quiet.4, booted_quiet.5⟩, _, step_bootedWithEvent⟩

theorem witness_StepKeepsTheStore : bootedWithEvent.pstore.wf = true ∧ ∃ t, step bootedWithEvent = .next t :=
  ⟨rfl, _, step_bootedWithEvent⟩

theorem witness_WholeMachineRules :
    exec .utick pendingAtEnd = .next (eventStep Config.hw .utick pendingAtEnd) ∧ enabled .isr booted = false := ⟨rfl, rfl⟩

/-- A late tap, and a fourth tap after which PWRITE_TRACE has grown. -/
theorem witness_NoEventBothClearsAndRecomputes :
    threeTaps.booted = true ∧ Stale threeTaps 2501 ∧
    exec (.tap 2500) threeTaps = .next (eventStep Config.hw (.tap 2500) threeTaps) ∧
    (eventStep Config.hw (.tap 2500) threeTaps).pwriteTrace ≠ threeTaps.pwriteTrace :=
  ⟨by decide, by decide, rfl, by decide⟩

theorem witness_BootTempoStaysUntilARecomputation :
    State.reset.booted = false ∧ exec .boot State.reset = .next (eventStep Config.hw .boot State.reset) ∧
    booted.booted = true ∧ exec (.tap 9) booted = .next (eventStep Config.hw (.tap 9) booted) ∧
    ∀ now, Instr.tap 9 = .tap now → booted.tapCount ≠ 3 ∨ Stale booted now ∨ averageTo booted now = 0 :=
  ⟨rfl, rfl, rfl, rfl, fun _ _ => .inl (by decide)⟩

theorem witness_MainEventsCommuteWithTheHandler : agentOf (.tap 9) = .main := rfl

theorem witness_RefusedMarksExactlyTheNonSchedules : booted.refused = false := rfl

/-- A sequence across the wrap of the clock (R79's TAPSEQ 0xFFFFFD12, 500, 4), and gaps of exactly 1500 ms. -/
theorem witness_GapsTelescope :
    let s : State := { booted with taps := { t0 := 0xFFFFFD12, t1 := 0xFFFFFF06, t2 := 250, t3 := 0 }, tapCount := 3 }
    let u : State := { booted with taps := { t0 := 0, t1 := 1500, t2 := 3000, t3 := 0 }, tapCount := 3 }
    (s.booted = true ∧ s.tapCount = 3 ∧ TapGaps Config.hw s ∧ ¬ Stale s 750) ∧
    (u.booted = true ∧ u.tapCount = 3 ∧ TapGaps Config.hw u ∧ ¬ Stale u 4500) :=
  ⟨⟨rfl, rfl, ⟨by decide, fun _ => by decide, fun _ => by decide⟩, by decide⟩,
    ⟨rfl, rfl, ⟨by decide, fun _ => by decide, fun _ => by decide⟩, by decide⟩⟩

theorem witness_EqualSpacingGivesTheTempo : booted.booted = true ∧ booted.tapCount = 0 ∧ 1 ≤ 1500 := by decide

theorem witness_SlowTapsNeverSetTheTempo :
    booted.booted = true ∧ booted.tapCount = 0 ∧ 1500 < 1501 ∧ 1501 < 2 ^ 32 := by decide

/-- Vector M13, with the debounce delay at its least. -/
theorem witness_DebouncedTapsKeepTheTempoAtMost30000 :
    let s : State := { booted with taps := { t0 := 0, t1 := 20, t2 := 40, t3 := 0 }, tapCount := 3 }
    s.booted = true ∧ s.tapCount = 3 ∧ TapGaps Config.hw s ∧ msBetween s.taps.t2 60 ≤ 1500 ∧
    DebounceContract 20 [s.taps.t0, s.taps.t1, s.taps.t2, 60] ∧ ∃ t, exec (.tap 60) s = .next t :=
  ⟨rfl, rfl, ⟨by decide, fun _ => by decide, fun _ => by decide⟩, by decide,
    ⟨by decide, by decide, by decide, by decide, by decide, by decide, trivial⟩, _, exec_eq _ _⟩

theorem witness_ClampKeepsTheTempoInTheWindow :
    let p : Config.Params := { Config.hw with clampTapBpm := true }
    p.Legal ∧ p.clampTapBpm = true := by decide

theorem witness_PollCadenceDoesNotMatter :
    threeTaps.booted = true ∧
    (0 < threeTaps.tapCount.toNat → threeTaps.tapCount.toNat < 4 →
      ∀ k ∈ ([1100, 2500] : List Word), msBetween (newestTap threeTaps) k ≤ msBetween (newestTap threeTaps) 2501) :=
  ⟨rfl, fun _ _ => List.forall_mem_cons.2 ⟨by decide, List.forall_mem_cons.2 ⟨by decide, List.forall_mem_nil _⟩⟩⟩

/-- The least BPM of R135. -/
theorem witness_ApplyTempoWritesTempoTimerAndStore : Config.hw.Legal ∧ 1 ≤ (1 : Word).toNat := by decide

theorem witness_PeriodArithmetic : 1 ≤ 25000000 ∧ 400 ≤ 3000 ∧ 3000 ≤ 3000 := by omega

/-- The three clauses: in the window, outside it, and no store. -/
theorem witness_LoadPersistedValidates :
    Config.hw.Legal ∧ Config.hw.persistEnable = true ∧
    Config.hw.minimumBpm ≤ storedBpm (State.reset.withStore 0x01 0x90) ∧
    storedBpm (State.reset.withStore 0x01 0x90) ≤ Config.hw.maximumBpm ∧
    Config.hw.maximumBpm < storedBpm (State.reset.withStore 0x0B 0xB9) ∧
    ({ Config.hw with persistEnable := false } : Config.Params).Legal := by decide

/-- At 4 off, at 0 on, elsewhere nothing; with BLINK_DURATION = 0 the second test wins (vector C9). -/
theorem witness_LedTestsInOrder :
    (4 : BitVec 5).toNat = Config.hw.blinkDuration ∧ (0 : BitVec 5).toNat ≠ Config.hw.blinkDuration ∧
    (10 : BitVec 5).toNat ≠ Config.hw.blinkDuration ∧ (10 : BitVec 5).toNat ≠ 0 ∧
    (0 : BitVec 5).toNat = ({ Config.hw with blinkDuration := 0 } : Config.Params).blinkDuration := by decide

theorem witness_ClockBytesOnlyOutsideDebugMode : ({ Config.hw with debugMode := true } : Config.Params).debugMode = true := rfl

/-- Vector A2: elapsed 15000, new period 10416, the phase kept; and the same with a count short of the new period. -/
theorem witness_RestartDecidesTheNextExpiry :
    let keep : Config.Params := { Config.hw with timerRestartOnApply := false }
    Config.hw.Legal ∧ keep.Legal ∧ 1 ≤ (2400 : Word).toNat ∧ Config.hw.timerRestartOnApply = true ∧
    keep.timerRestartOnApply = false ∧ booted.tmrEn = true ∧ booted.irqPending = false ∧
    1 ≤ 600000000 / (2400 : Word).toNat / keep.ppb ∧
    600000000 / (2400 : Word).toNat / keep.ppb ≤ (15000 : Word).toNat ∧
    (10415 : Word).toNat < 600000000 / (2400 : Word).toNat / keep.ppb := by
  decide

theorem witness_ExpiryComesAfterOnePeriod :
    booted.tmrEn = true ∧ booted.tmrElapsed.toNat + 20832 < booted.tmrPeriod.toNat ∧
    booted.tmrElapsed.toNat + 20833 = booted.tmrPeriod.toNat ∧ booted.irqPending = false := by decide

theorem witness_EagerSchedules :
    booted.tmrEn = true ∧ booted.irqPending = false ∧ booted.tmrElapsed = 0 ∧ 1 ≤ booted.tmrPeriod.toNat ∧
    booted.pulseCounter.toNat < 24 := by decide

theorem witness_PresentedBytesAreRead : State.reset.pstore.wf = true := rfl

/-- Each clause: a refused event, and each event enabled; a TAP that times out, one that sets the tempo, one rejected. -/
theorem witness_PortsShowWhatAStepPutsOut :
    enabled .isr booted = false ∧ exec .isr booted = .next (eventStep Config.hw .isr booted) ∧
    State.reset.booted = false ∧ exec .boot State.reset = .next (eventStep Config.hw .boot State.reset) ∧
    threeTaps.booted = true ∧ exec (.tick 2501) threeTaps = .next (eventStep Config.hw (.tick 2501) threeTaps) ∧
    Stale threeTaps 2501 ∧ exec (.tap 2500) threeTaps = .next (eventStep Config.hw (.tap 2500) threeTaps) ∧
    ¬ Stale threeTaps 2500 ∧ averageTo threeTaps 2500 = 833 ∧
    exec .utick pendingAtEnd = .next (eventStep Config.hw .utick pendingAtEnd) ∧ pendingAtEnd.tmrEn = true ∧
    pendingAtEnd.irqPending = true ∧ exec .isr pendingAtEnd = .next (eventStep Config.hw .isr pendingAtEnd) :=
  ⟨rfl, rfl, rfl, rfl, rfl, rfl, by decide, rfl, by decide, by decide, rfl, rfl, rfl, rfl⟩

/-- The largest time and the first that is rejected, in decimal and in hexadecimal. -/
theorem witness_AssemblerReadsNumbers :
    (∀ c ∈ "4294967295".toList, c.isDigit = true) ∧ decimalValue "4294967295".toList = 2 ^ 32 - 1 ∧
    (∀ c ∈ "4294967296".toList, c.isDigit = true) ∧ decimalValue "4294967296".toList = 2 ^ 32 ∧
    (∀ c ∈ "fFffFFff".toList, (Assembler.digit c).isSome = true) ∧ hexValue "fFffFFff".toList = 2 ^ 32 - 1 ∧
    (∀ c ∈ "100000000".toList, (Assembler.digit c).isSome = true) ∧ hexValue "100000000".toList = 2 ^ 32 ∧
    (∀ c ∈ "1500".toList ++ "500".toList ++ "4".toList, c.isDigit = true) :=
  ⟨List.all_eq_true.1 rfl, rfl, List.all_eq_true.1 rfl, rfl, List.all_eq_true.1 rfl, rfl, List.all_eq_true.1 rfl, rfl,
    List.all_eq_true.1 rfl⟩

end Sys2Proof.Tests
end

section
/-! PROOFS. What an event leaves unchanged: one frame for every event, and from it the frames of R43, the store (R41, R55)
and the sticky bits (R32, R42, R204). -/

namespace Sys2Proof.Machine

open Sys2Proof.Safety

/-! ## Which fields an event writes -/

/-- The state `t` with the fields that the body of the event may write (R43) put back to what they are in `s`. -/
def restoreWritten : Instr → State → State → State
  | .boot, s, t =>
    { t with
      bpm := s.bpm, tmrPeriod := s.tmrPeriod, tmrElapsed := s.tmrElapsed, tmrMask := s.tmrMask, tmrEn := s.tmrEn,
      booted := s.booted, pwriteTrace := s.pwriteTrace, diagTrace := s.diagTrace }
  | .tick _, s, t => { t with tapCount := s.tapCount, diagTrace := s.diagTrace }
  | .tap _, s, t =>
    { t with
      taps := s.taps, tapCount := s.tapCount, bpm := s.bpm, tmrPeriod := s.tmrPeriod, tmrElapsed := s.tmrElapsed,
      tmrMask := s.tmrMask, pwriteTrace := s.pwriteTrace, diagTrace := s.diagTrace }
  | .utick, s, t =>
    { t with
      tmrElapsed := s.tmrElapsed, irqPending := s.irqPending, faultOverrun := s.faultOverrun, diagTrace := s.diagTrace }
  | .isr, s, t =>
    { t with
      irqPending := s.irqPending, sinkTrace := s.sinkTrace, pulseCounter := s.pulseCounter, ledOn := s.ledOn }

@[simp] theorem restoreWritten_refused (i : Instr) (s t : State) : (restoreWritten i s t).refused = t.refused := by
  cases i <;> rfl
@[simp] theorem restoreWritten_pstore (i : Instr) (s t : State) : (restoreWritten i s t).pstore = t.pstore := by
  cases i <;> rfl
@[simp] theorem restoreWritten_powerCycle (i : Instr) (s t : State) :
    (restoreWritten i s t).powerCycle = t.powerCycle := by
  cases i <;> rfl
theorem restoreWritten_faultOverrun {i : Instr} (hi : i ≠ .utick) (s t : State) :
    (restoreWritten i s t).faultOverrun = t.faultOverrun := by
  cases i with
  | utick => exact absurd rfl hi
  | _ => rfl

/-- The fourth tap's outcome as one record: the tempo applied, the buffer cleared (R108, R135). -/
theorem clearTaps_applyTempo_eq (p : Config.Params) (bpm : Word) (taps : Taps) (c : BitVec 3) (s : State) :
    clearTaps (applyTempo p bpm true { s with taps := taps, tapCount := c }) =
      { s with
        taps := taps
        tapCount := 0
        bpm := bpm
        tmrPeriod := toWord (periodOf p bpm.toNat)
        tmrElapsed := if p.timerRestartOnApply then 0 else s.tmrElapsed
        tmrMask := false
        pwriteTrace := s.pwriteTrace ++
          if p.persistEnable then [(.msb, bpm.extractLsb' 8 8), (.lsb, bpm.extractLsb' 0 8)] else [] } := by
  rw [applyTempo_eq]
  rfl

/-- Every event body writes only its own fields (R43). -/
theorem eventBody_frame (p : Config.Params) (i : Instr) (s : State) : restoreWritten i s (eventBody p i s) = s := by
  cases i with
  | boot => rw [eventBody, bootEvent_eq]; rfl
  | tick now =>
    rw [eventBody, tickEvent, checkTimeout_eq]
    split <;> rfl
  | tap now =>
    obtain ⟨-, h⟩ | ⟨-, -, h⟩ | ⟨-, -, h⟩ | ⟨-, -, h⟩ | ⟨-, -, -, h⟩ | ⟨-, -, -, h⟩ | ⟨-, -, h⟩ :=
      tapEvent_cases p now s
    case inr.inr.inr.inr.inr.inl => rw [eventBody, h, clearTaps_applyTempo_eq]; rfl
    all_goals rw [eventBody, h]; rfl
  | utick =>
    obtain ⟨-, h⟩ | ⟨-, -, h⟩ | ⟨-, -, -, h⟩ | ⟨-, -, -, h⟩ := utickEvent_cases p s <;> rw [eventBody, h] <;> rfl
  | isr => rw [eventBody, isrEvent_eq]; rfl

/-- A tap that is not the fourth leaves the tempo, the timer and the persistence writes alone (R108). -/
theorem tapEvent_keeps_tempo (p : Config.Params) (now : Word) {s : State} (h3 : s.tapCount ≠ 3) :
    (tapEvent p now s).bpm = s.bpm ∧ (tapEvent p now s).tmrPeriod = s.tmrPeriod ∧
    (tapEvent p now s).tmrElapsed = s.tmrElapsed ∧ (tapEvent p now s).tmrMask = s.tmrMask ∧
    (tapEvent p now s).pwriteTrace = s.pwriteTrace := by
  obtain ⟨-, h⟩ | ⟨-, -, h⟩ | ⟨-, -, h⟩ | ⟨-, -, h⟩ | ⟨-, hc, -⟩ | ⟨-, hc, -⟩ | ⟨-, -, h⟩ := tapEvent_cases p now s
  case inr.inr.inr.inr.inl | inr.inr.inr.inr.inr.inl => exact absurd hc h3
  all_goals simp [h]

/-! ## What every event keeps -/

/-- An event is its body where it is enabled and a refusal where it is not (R77). -/
theorem eventStep_cases (p : Config.Params) (i : Instr) (s : State) :
    (enabled i s = true ∧ eventStep p i s = eventBody p i s) ∨
    (enabled i s = false ∧ eventStep p i s = { s with refused := true }) := by
  cases h : enabled i s
  · exact .inr ⟨rfl, eventStep_refused h⟩
  · exact .inl ⟨rfl, eventStep_enabled h⟩

/-- Every event writes only its own fields, and REFUSED (R43, R77). -/
theorem eventStep_frame (p : Config.Params) (i : Instr) (s : State) :
    { restoreWritten i s (eventStep p i s) with refused := s.refused } = s := by
  obtain ⟨-, h⟩ | ⟨-, h⟩ := eventStep_cases p i s <;> rw [h]
  · rw [eventBody_frame]
  · cases i <;> rfl

theorem eventBody_refused (p : Config.Params) (i : Instr) (s : State) : (eventBody p i s).refused = s.refused := by
  simpa using congrArg State.refused (eventBody_frame p i s)

/-- Only UTICK writes FAULT_OVERRUN (R43). -/
theorem eventStep_faultOverrun {p : Config.Params} {i : Instr} {s : State} (hi : i ≠ .utick) :
    (eventStep p i s).faultOverrun = s.faultOverrun := by
  simpa [restoreWritten_faultOverrun hi] using congrArg State.faultOverrun (eventStep_frame p i s)

/-- No event touches the cells of PSTORE (R41, R55). -/
theorem eventStep_pstore (p : Config.Params) (i : Instr) (s : State) : (eventStep p i s).pstore = s.pstore := by
  simpa using congrArg State.pstore (eventStep_frame p i s)

theorem eventStep_powerCycle (p : Config.Params) (i : Instr) (s : State) :
    (eventStep p i s).powerCycle = s.powerCycle := by
  simpa using congrArg State.powerCycle (eventStep_frame p i s)

/-- After every event the store presents the same bytes (R41, R55). -/
theorem eventStep_storeByte (p : Config.Params) (i : Instr) (s : State) (slot : Slot) :
    (eventStep p i s).storeByte slot = s.storeByte slot :=
  State.storeByte_congr (eventStep_pstore p i s) (eventStep_powerCycle p i s) slot

/-- REFUSED after an event: what it was, or 1 if the event was not enabled (R42, R77). -/
theorem eventStep_refusedBit (p : Config.Params) (i : Instr) (s : State) :
    (eventStep p i s).refused = (s.refused || !enabled i s) := by
  obtain ⟨he, h⟩ | ⟨he, h⟩ := eventStep_cases p i s <;> rw [h, he]
  · simp [eventBody_refused]
  · simp

/-- FAULT_OVERRUN after UTICK: what it was, or 1 for an expiry with the interrupt pending (R204). -/
theorem utickEvent_faultOverrun (p : Config.Params) (s : State) :
    (utickEvent p s).faultOverrun = (s.faultOverrun ||
      (s.tmrEn && s.irqPending && decide (s.tmrPeriod.toNat ≤ s.tmrElapsed.toNat + 1))) := by
  obtain ⟨he, h⟩ | ⟨-, hlt, h⟩ | ⟨-, -, hi, h⟩ | ⟨he, hle, hi, h⟩ := utickEvent_cases p s <;> rw [h]
  · simp [he]
  · simp [Nat.not_le.2 hlt]
  · simp [hi]
  · simp [he, hle, hi]

/-! ## The obligations -/

/-- Settles O22, by the frame of TICK. -/
theorem tickFrame : Obligations.TickFrame := by
  intro s t now h
  obtain rfl := exec_next_iff.1 h
  exact ⟨eventStep_frame Config.hw (.tick now) s, eventStep_storeByte Config.hw (.tick now) s⟩

/-- Settles O23, by the frame of TAP, and by its outcomes where the tap is not the fourth. -/
theorem tapFrame : Obligations.TapFrame := by
  intro s t now h
  obtain rfl := exec_next_iff.1 h
  have frame := eventStep_frame Config.hw (.tap now) s
  refine ⟨(congrArg State.tmrEn frame :), (congrArg State.irqPending frame :), (congrArg State.pulseCounter frame :),
    (congrArg State.ledOn frame :), (congrArg State.booted frame :), (congrArg State.faultOverrun frame :),
    (congrArg State.sinkTrace frame :), (congrArg State.events frame :), (congrArg State.pstore frame :),
    (congrArg State.powerCycle frame :), fun h3 => ?_, eventStep_storeByte Config.hw (.tap now) s⟩
  obtain ⟨-, h⟩ | ⟨-, h⟩ := eventStep_cases Config.hw (.tap now) s <;> rw [h]
  · exact tapEvent_keeps_tempo Config.hw now h3
  · simp

/-- Settles O24, by the frame of BOOT. -/
theorem bootFrame : Obligations.BootFrame := by
  intro s t h
  obtain rfl := exec_next_iff.1 h
  have frame := eventStep_frame Config.hw .boot s
  exact ⟨(congrArg State.taps frame :), (congrArg State.tapCount frame :), (congrArg State.irqPending frame :),
    (congrArg State.pulseCounter frame :), (congrArg State.ledOn frame :), (congrArg State.faultOverrun frame :),
    (congrArg State.sinkTrace frame :), (congrArg State.events frame :), (congrArg State.pstore frame :),
    (congrArg State.powerCycle frame :), eventStep_storeByte Config.hw .boot s⟩

/-- Settles O25, by the frame of the body of UTICK, which is always enabled, and by the frame of ISR. -/
theorem timerAndHandlerFrames : Obligations.TimerAndHandlerFrames := by
  constructor
  · intro s t h
    obtain rfl := exec_next_iff.1 h
    exact ⟨eventBody_frame Config.hw .utick s, eventStep_storeByte Config.hw .utick s⟩
  · intro s t h
    obtain rfl := exec_next_iff.1 h
    exact ⟨eventStep_frame Config.hw .isr s, eventStep_storeByte Config.hw .isr s⟩

/-- Settles O32, by the cases of a step: none of them touches the store. -/
theorem stepKeepsTheStore : Obligations.StepKeepsTheStore := by
  intro s t hwf ht
  have ⟨hpstore, hcycle⟩ : t.pstore = s.pstore ∧ t.powerCycle = s.powerCycle := by
    obtain ⟨-, h⟩ | ⟨_, ws, _, -, -, h⟩ | ⟨_, ws, i, -, -, h⟩ := step_cases s <;> rw [h] at ht <;> cases ht
    · exact ⟨rfl, rfl⟩
    · exact ⟨eventStep_pstore _ _ _, eventStep_powerCycle _ _ _⟩
  exact ⟨hpstore ▸ hwf, State.storeByte_congr hpstore hcycle⟩

/-- Settles O33: REFUSED is set by the refusal alone, FAULT_OVERRUN by UTICK alone. -/
theorem stickyBitsRecordExactlyTheirCauses : Obligations.StickyBitsRecordExactlyTheirCauses := by
  intro i s t h
  obtain rfl := exec_next_iff.1 h
  refine ⟨eventStep_refusedBit Config.hw i s, ?_⟩
  by_cases hi : i = .utick
  · subst hi
    exact utickEvent_faultOverrun Config.hw s
  · simp [eventStep_faultOverrun hi, hi]

end Sys2Proof.Machine
end

section
/-! PROOFS. The invariants of Safety: what reset gives, and what each event body keeps (R45, R27, R28, R114). -/

namespace Sys2Proof.Machine

open Sys2Proof.Safety

/-! ## The tempo an event applies, and its period -/

/-- Under R9 every tempo up to K_MS has a period of at least one microsecond (R28, R45). -/
theorem period_pos {p : Config.Params} (hp : p.Legal) {bpm : Nat} (h1 : 1 ≤ bpm) (hk : bpm ≤ 600000) :
    1 ≤ Config.kUs / bpm / p.ppb := by
  obtain ⟨_, hppb, hppb', _⟩ := hp
  have hprod : bpm * p.ppb ≤ 600000 * 32 := Nat.mul_le_mul hk hppb'
  rw [Nat.div_div_eq_div_mul, Nat.le_div_iff_mul_le (Nat.mul_pos h1 hppb), Config.kUs_eq]
  omega

/-- The range of the period on this hardware for a tempo in [400, 600000] (R28). -/
theorem period_range {bpm : Nat} (hlo : 400 ≤ bpm) (hhi : bpm ≤ 600000) :
    41 ≤ Config.kUs / bpm / Config.hw.ppb ∧ Config.kUs / bpm / Config.hw.ppb ≤ 62500 := by
  have hmin : 600000000 / 600000 ≤ 600000000 / bpm := Nat.div_le_div_left hhi (by omega)
  have hmax : 600000000 / bpm ≤ 600000000 / 400 := Nat.div_le_div_left hlo (by omega)
  simp only [Config.kUs_eq, Config.hw_ppb]
  omega

/-- The quotient of a buffer that is not rejected is a tempo from 1 to K_MS, with or without the clamp (R131, R134). -/
theorem clampBpm_range {p : Config.Params} (hp : p.Legal) {n : Nat} (h1 : 1 ≤ n) (hk : n ≤ 600000) :
    1 ≤ clampBpm p n ∧ clampBpm p n ≤ 600000 := by
  obtain ⟨_, _, _, _, hmin, _, _, hcap, _⟩ := hp
  unfold clampBpm
  split <;> omega

/-- The quotient K_MS / avg is at least 1 where it is not rejected (R131). -/
theorem tapBpm_range {avg : Nat} (h1 : 1 ≤ avg) (hk : avg ≤ Config.kMs) :
    1 ≤ Config.kMs / avg ∧ Config.kMs / avg ≤ 600000 :=
  ⟨(Nat.one_le_div_iff h1).2 hk, Nat.div_le_self _ _⟩

/-- The period that `applyTempo` writes for a tempo up to K_MS is not 0 (R28, R135). -/
theorem toWord_periodOf_pos {p : Config.Params} (hp : p.Legal) {bpm : Nat} (h1 : 1 ≤ bpm) (hk : bpm ≤ 600000) :
    1 ≤ (toWord (periodOf p bpm)).toNat := by
  rw [toWord_periodOf_toNat]
  exact period_pos hp h1 hk

/-- What BOOT loads is a tempo from 1 to K_MS (R191). -/
theorem loadedBpm_range {p : Config.Params} (hp : p.Legal) (s : State) :
    1 ≤ (loadedBpm p s).toNat ∧ (loadedBpm p s).toNat ≤ 600000 := by
  obtain ⟨hlo, hhi⟩ := loadedBpm_inWindow hp s
  obtain ⟨_, _, _, _, hmin, _, _, hcap, _⟩ := hp
  omega

/-- What a fourth tap that is not rejected applies is a tempo from 1 to K_MS (R131, R134). -/
theorem tapTempo_range {p : Config.Params} (hp : p.Legal) {avg : Nat} (h1 : 1 ≤ avg) (hk : avg ≤ Config.kMs) :
    1 ≤ (toWord (clampBpm p (Config.kMs / avg))).toNat ∧ (toWord (clampBpm p (Config.kMs / avg))).toNat ≤ 600000 := by
  obtain ⟨hq1, hqk⟩ := tapBpm_range h1 hk
  obtain ⟨hlo, hhi⟩ := clampBpm_range hp hq1 hqk
  rw [toWord_toNat_of_lt (by omega)]
  exact ⟨hlo, hhi⟩

/-! ## The invariants (a) to (f) of R45, under every configuration that meets R9 -/

section KeepsInvariants

variable {p : Config.Params} {s : State} (hp : p.Legal) (h : Invariants p s)
include h

theorem invariants_refused : Invariants p { s with refused := true } := { h with }

theorem invariants_events (ws : List EventWord) : Invariants p { s with events := ws } := { h with }

theorem invariants_tickEvent (now : Word) : Invariants p (tickEvent p now s) := by
  rw [tickEvent, checkTimeout_eq]
  split
  · exact { h with count := by simp }
  · exact h

theorem invariants_utickEvent : Invariants p (utickEvent p s) := by
  obtain ⟨-, he⟩ | ⟨-, hlt, he⟩ | ⟨-, -, -, he⟩ | ⟨-, -, -, he⟩ := utickEvent_cases p s <;> rw [he]
  · exact h
  · refine { h with phase := fun _ _ => ?_ }
    have := s.tmrPeriod.isLt
    rw [toWord_toNat_of_lt (by omega)]
    exact hlt
  all_goals exact { h with phase := fun hen hr => Nat.zero_lt_of_lt (h.phase hen hr) }

include hp

theorem invariants_bootEvent : Invariants p (bootEvent p s) := by
  obtain ⟨h1, hk⟩ := loadedBpm_range hp s
  have hpos := toWord_periodOf_pos hp h1 hk
  rw [bootEvent_eq]
  exact { h with
    tempo := fun _ => ⟨h1, toWord_periodOf_toNat p _, hpos, rfl⟩
    phase := fun _ hr => by rw [if_pos hr]; exact hpos
    mask := rfl }

theorem invariants_tapEvent (now : Word) : Invariants p (tapEvent p now s) := by
  obtain ⟨-, he⟩ | ⟨-, -, he⟩ | ⟨-, -, he⟩ | ⟨-, -, he⟩ | ⟨-, -, -, he⟩ | ⟨-, -, ⟨havg, hkms⟩, he⟩ | ⟨-, -, he⟩ :=
    tapEvent_cases p now s <;> rw [he]
  case inr.inr.inr.inr.inr.inl =>
    obtain ⟨h1, hk⟩ := tapTempo_range hp havg hkms
    have hpos := toWord_periodOf_pos hp h1 hk
    rw [clearTaps_applyTempo_eq]
    exact { h with
      count := by simp
      tempo := fun hb =>
        have ⟨_, _, _, hen⟩ := h.tempo hb
        ⟨h1, toWord_periodOf_toNat p _, hpos, hen⟩
      phase := fun _ hr => by rw [if_pos hr]; exact hpos
      mask := rfl }
  case inr.inr.inr.inr.inr.inr => exact h
  all_goals exact { h with count := by simp }

theorem invariants_isrEvent : Invariants p (isrEvent p s) := by
  obtain ⟨_, hppb, hppb', _⟩ := hp
  obtain ⟨hclock, hdebug⟩ := h.sink
  rw [isrEvent_eq]
  refine { h with pulse := ?_, sink := ⟨?_, fun hd => ?_⟩ }
  · rw [nextPulse_toNat p _ hppb hppb']
    exact Nat.mod_lt _ hppb
  · intro b hb
    rcases List.mem_append.1 hb with hb | hb
    · exact hclock b hb
    · split at hb
      · cases hb
      · exact List.mem_singleton.1 hb
  · simp [hdebug hd, hd]

theorem invariants_eventBody (i : Instr) : Invariants p (eventBody p i s) := by
  cases i with
  | boot => exact invariants_bootEvent hp h
  | tick now => exact invariants_tickEvent h now
  | tap now => exact invariants_tapEvent hp h now
  | utick => exact invariants_utickEvent h
  | isr => exact invariants_isrEvent hp h

end KeepsInvariants

/-! ## The gaps in the buffer, and the range of the tempo and the period on this hardware -/

/-- Two gaps in a row add up, mod 2^32 (R11, R132). -/
theorem msBetween_trans (a b c : Word) : msBetween a c = (msBetween a b + msBetween b c) % 2 ^ 32 := by
  have := a.isLt
  have := b.isLt
  have := c.isLt
  unfold msBetween
  omega

/-- Where a sequence is active and not timed out, the newest tap is at most `MAXIMUM_TAP_INTERVAL` old (R104). -/
theorem gap_le_of_not_timedOut {p : Config.Params} {s : State} {now : Word} (ht : s.timedOut p now = false)
    (h0 : 0 < s.tapCount.toNat) (h4 : s.tapCount.toNat < 4) : msBetween (newestTap s) now ≤ p.maximumTapInterval := by
  have hnot := mt (timedOut_iff p s now).2 (by simp [ht])
  omega

/-- On this hardware a sequence that is not timed out is not stale (R104). -/
theorem not_stale_of_not_timedOut {s : State} {now : Word} (ht : s.timedOut Config.hw now = false) : ¬ Stale s now :=
  mt (timedOut_hw_iff s now).2 (by simp [ht])

/-- With three gaps of at most 1500 ms the average of R131 is at most 1500 ms (R114, R132). -/
theorem averageTo_le {s : State} {now : Word} (h : TapGaps Config.hw s) (h3 : s.tapCount = 3)
    (hnew : msBetween s.taps.t2 now ≤ 1500) : averageTo s now ≤ 1500 := by
  have hsecond := h.second (by simp [h3])
  have hthird := h.third (by simp [h3])
  rw [sub32_eq_msBetween, Config.hw_maximumTapInterval] at hsecond hthird
  have h02 := msBetween_trans s.taps.t0 s.taps.t1 s.taps.t2
  have h03 := msBetween_trans s.taps.t0 s.taps.t2 now
  unfold averageTo
  omega

/-- The tempo of an average from 1 to 1500 ms lies in [400, 600000] (R27). -/
theorem tapBpm_range_hw {avg : Nat} (h1 : 1 ≤ avg) (h1500 : avg ≤ 1500) :
    400 ≤ Config.kMs / avg ∧ Config.kMs / avg ≤ 600000 :=
  ⟨(Nat.le_div_iff_mul_le h1).2 (by rw [Config.kMs_eq]; omega), Nat.div_le_self _ _⟩

/-- An applied tempo in [400, 600000] puts BPM and TMR_PERIOD in their ranges (R27, R28). -/
theorem tempoRange_of_applied {s : State} {bpm : Word} (hbpm : s.bpm = bpm)
    (hperiod : s.tmrPeriod = toWord (periodOf Config.hw bpm.toNat)) (hlo : 400 ≤ bpm.toNat)
    (hhi : bpm.toNat ≤ 600000) : TempoRange s := by
  obtain ⟨hplo, hphi⟩ := period_range hlo hhi
  rw [← toWord_periodOf_toNat, ← hperiod] at hplo hphi
  subst hbpm
  exact ⟨fun _ => hlo, fun _ => hhi, fun _ => hplo, fun _ => hphi⟩

/-- With at most one tap in the buffer there is no gap to bound. -/
theorem tapGaps_of_count_le_one {p : Config.Params} {s : State} (h : s.tapCount.toNat ≤ 1) : TapGaps p s :=
  ⟨by omega, by omega, by omega⟩

theorem tapGaps_congr {p : Config.Params} {s t : State} (htaps : t.taps = s.taps) (hcount : t.tapCount = s.tapCount)
    (h : TapGaps p s) : TapGaps p t := by
  obtain ⟨h1, h2, h3⟩ := h
  rw [← htaps, ← hcount] at *
  exact ⟨h1, h2, h3⟩

theorem tempoRange_congr {s t : State} (hbpm : t.bpm = s.bpm) (hperiod : t.tmrPeriod = s.tmrPeriod)
    (hbooted : t.booted = s.booted) (h : TempoRange s) : TempoRange t := by
  obtain ⟨h1, h2, h3, h4⟩ := h
  rw [← hbpm, ← hperiod, ← hbooted] at *
  exact ⟨h1, h2, h3, h4⟩

/-- A tap is stored only within the timeout of the tap before it (R104, R114). -/
theorem tapGaps_tapEvent {p : Config.Params} {s : State} (h : TapGaps p s) (now : Word) :
    TapGaps p (tapEvent p now s) := by
  obtain ⟨-, he⟩ | ⟨-, -, he⟩ | ⟨ht, h1, he⟩ | ⟨ht, h2, he⟩ | ⟨-, -, -, he⟩ | ⟨-, -, -, he⟩ | ⟨-, h4, -⟩ :=
    tapEvent_cases p now s
  case inr.inr.inl =>
    have hgap := gap_le_of_not_timedOut ht (by simp [h1]) (by simp [h1])
    rw [he]
    refine ⟨by simp, fun _ => ?_, by simp⟩
    simpa [newestTap, h1, sub32_eq_msBetween] using hgap
  case inr.inr.inr.inl =>
    have hgap := gap_le_of_not_timedOut ht (by simp [h2]) (by simp [h2])
    rw [he]
    refine ⟨by simp, fun _ => h.second (by simp [h2]), fun _ => ?_⟩
    simpa [newestTap, h2, sub32_eq_msBetween] using hgap
  case inr.inr.inr.inr.inr.inr => exact absurd h.count (by omega)
  all_goals
    rw [he]
    exact tapGaps_of_count_le_one (by simp [clearTaps])

theorem tapGaps_eventBody {p : Config.Params} {s : State} (h : TapGaps p s) (i : Instr) :
    TapGaps p (eventBody p i s) := by
  have frame := eventBody_frame p i s
  cases i with
  | tick now =>
    rw [eventBody, tickEvent, checkTimeout_eq]
    split
    · exact tapGaps_of_count_le_one (by simp)
    · exact h
  | tap now => exact tapGaps_tapEvent h now
  | _ => exact tapGaps_congr (congrArg State.taps frame :) (congrArg State.tapCount frame :) h

/-- The fourth tap of a sequence with bounded gaps gives at least 400 tenths of a BPM (R27). -/
theorem tempoRange_tapEvent {s : State} (hg : TapGaps Config.hw s) (hr : TempoRange s) (now : Word) :
    TempoRange (tapEvent Config.hw now s) := by
  obtain ⟨-, he⟩ | ⟨-, -, he⟩ | ⟨-, -, he⟩ | ⟨-, -, he⟩ | ⟨-, -, -, he⟩ | ⟨ht, h3, ⟨havg, -⟩, he⟩ | ⟨-, -, he⟩ :=
    tapEvent_cases Config.hw now s <;> rw [he]
  case inr.inr.inr.inr.inr.inl =>
    have hgap := gap_le_of_not_timedOut ht (by simp [h3]) (by simp [h3])
    have h1500 := averageTo_le hg h3 (by simpa [newestTap, h3] using hgap)
    obtain ⟨hlo, hhi⟩ := tapBpm_range_hw havg h1500
    have hbpm : (toWord (Config.kMs / averageTo s now)).toNat = Config.kMs / averageTo s now :=
      toWord_toNat_of_lt (by omega)
    rw [clearTaps_applyTempo_eq, clampBpm_off rfl]
    exact tempoRange_of_applied rfl rfl (hlo.trans_eq hbpm.symm) (hbpm.trans_le hhi)
  all_goals exact { hr with }

theorem tempoRange_eventBody {s : State} (hg : TapGaps Config.hw s) (hr : TempoRange s) (i : Instr) :
    TempoRange (eventBody Config.hw i s) := by
  have frame := eventBody_frame Config.hw i s
  cases i with
  | boot =>
    obtain ⟨hlo, hhi⟩ := loadedBpm_inWindow Config.hw_legal s
    rw [eventBody, bootEvent_eq]
    exact tempoRange_of_applied rfl rfl hlo (Nat.le_trans hhi (by decide))
  | tap now => exact tempoRange_tapEvent hg hr now
  | _ =>
    exact tempoRange_congr (congrArg State.bpm frame :) (congrArg State.tmrPeriod frame :)
      (congrArg State.booted frame :) hr

/-! ## The obligations -/

/-- Settles O27: no event body breaks (a) to (f), and neither does taking a word or a refusal. -/
theorem stepKeepsTheInvariants : Obligations.StepKeepsTheInvariants := fun _ _ hs ht =>
  step_keeps (P := Invariants Config.hw) (fun _ ws h => invariants_events h ws) (fun _ h => invariants_refused h)
    (fun i _ _ h => invariants_eventBody Config.hw_legal h i) hs ht

/-- Settles O28: an event is its body, which keeps (a) to (f) under R9, or a refusal. -/
theorem invariantsUnderEveryLegalConfiguration : Obligations.InvariantsUnderEveryLegalConfiguration := by
  intro p i s hp hs
  obtain ⟨-, h⟩ | ⟨-, h⟩ := eventStep_cases p i s <;> rw [h]
  · exact invariants_eventBody hp hs i
  · exact invariants_refused hs

/-- Settles O29: the gaps are kept by themselves, and bound the tempo of a fourth tap from below. -/
theorem stepKeepsTheTempoInRange : Obligations.StepKeepsTheTempoInRange := fun _ _ hg hr ht =>
  step_keeps (P := fun s => TapGaps Config.hw s ∧ TempoRange s)
    (fun _ _ ⟨hg, hr⟩ => ⟨{ hg with }, { hr with }⟩) (fun _ ⟨hg, hr⟩ => ⟨{ hg with }, { hr with }⟩)
    (fun i _ _ ⟨hg, hr⟩ => ⟨tapGaps_eventBody hg i, tempoRange_eventBody hg hr i⟩) ⟨hg, hr⟩ ht

/-- Settles O26: nothing has been counted, applied or put out at reset. -/
theorem invariantsHoldAtReset : Obligations.InvariantsHoldAtReset := by
  have notBooted : ¬ State.reset.booted = true := by decide
  refine ⟨?_, tapGaps_of_count_le_one (by decide), ?_, ⟨rfl, rfl⟩, ?_, State.reset_pstore_wf⟩
  · exact ⟨by decide, by decide, fun hb => absurd hb notBooted, fun hen => absurd hen (by decide), rfl, by decide,
      fun _ => rfl⟩
  · exact ⟨fun hb => absurd hb notBooted, fun hb => absurd hb notBooted, fun hb => absurd hb notBooted,
      fun hb => absurd hb notBooted⟩
  · exact ⟨fun _ => rfl, fun _ => rfl, fun _ => rfl, fun _ => rfl, fun _ => rfl⟩

end Sys2Proof.Machine
end

section
/-! PROOFS. How a step runs the event of the next word (R22, R60, R70), and what the reset state answers (R44, R77). -/

namespace Sys2Proof.Machine

/-- The decoder undoes the encoder (R70, R73). -/
theorem decode_encode (i : Instr) : decode (encode i) = .ok i := by
  rw [decode, encode, splitWord_joinWord]
  cases i <;> rfl

/-- A word that names an event is run as that event (R60). -/
theorem step_of_decode {s : State} {w : EventWord} {ws : List EventWord} {i : Instr} (hs : s.events = w :: ws)
    (hw : decode w = .ok i) : step s = exec i { s with events := ws } := by
  rw [step_cons hs, runWord, hw]

/-- A 40-bit word in the table's numbering is the word itself. -/
theorem withFetchWord_toNat (s : State) (w : EventWord) : s.withFetchWord 40 w.toNat = s.presentEvent w := by
  rw [State.withFetchWord, Nat.mod_eq_of_lt w.isLt, BitVec.ofNat_toNat, BitVec.setWidth_eq]

/-- Settles O4, by what a step does with a word that decodes. -/
theorem stepRunsTheDecodedEvent : Obligations.StepRunsTheDecodedEvent := fun _ _ _ _ => step_of_decode

/-- Settles O7: the placed word is the first, and decodes to the event it encodes. -/
theorem placedEventRunsNext : Obligations.PlacedEventRunsNext := by
  intro s i
  rw [withFetchWord_toNat]
  exact step_of_decode (s.presentEvent_events (encode i)) (decode_encode i)

/-- Settles O20: the fields by evaluation, the enabled events by their conditions. -/
theorem resetLeavesTheBlockWaitingForBoot : Obligations.ResetLeavesTheBlockWaitingForBoot := by
  refine ⟨rfl, rfl, rfl, rfl, rfl, rfl, rfl, rfl, rfl, rfl, rfl, rfl, rfl, rfl, rfl, rfl, fun i => ?_⟩
  cases i <;> simp [enabled, State.reset, State.resetWith]

end Sys2Proof.Machine
end

section
/-! PROOFS. What each event puts out at the sink, the store and the diagnostic port (R214). -/

namespace Sys2Proof.Machine

open Sys2Proof.Safety

/-! ## The ports read what a trace has grown by -/

theorem sinkOut_of_append {s t : State} {out : List Byte} (h : t.sinkTrace = s.sinkTrace ++ out) :
    sinkOut s t = out := by
  rw [sinkOut, h, List.drop_left]

theorem storeOut_of_append {s t : State} {out : List (Slot × Byte)} (h : t.pwriteTrace = s.pwriteTrace ++ out) :
    storeOut s t = out := by
  rw [storeOut, h, List.drop_left]

theorem diagOut_of_append {s t : State} {out : List DiagCode} (h : t.diagTrace = s.diagTrace ++ out) :
    diagOut s t = out := by
  rw [diagOut, h, List.drop_left]

theorem sinkOut_of_kept {s t : State} (h : t.sinkTrace = s.sinkTrace) : sinkOut s t = [] :=
  sinkOut_of_append (by simp [h])

theorem storeOut_of_kept {s t : State} (h : t.pwriteTrace = s.pwriteTrace) : storeOut s t = [] :=
  storeOut_of_append (by simp [h])

theorem diagOut_of_kept {s t : State} (h : t.diagTrace = s.diagTrace) : diagOut s t = [] :=
  diagOut_of_append (by simp [h])

/-! ## One lemma per event -/

theorem bootEvent_out (s : State) :
    sinkOut s (bootEvent Config.hw s) = [] ∧
    storeOut s (bootEvent Config.hw s) =
      [(.msb, (bootEvent Config.hw s).bpm.extractLsb' 8 8), (.lsb, (bootEvent Config.hw s).bpm.extractLsb' 0 8)] ∧
    diagOut s (bootEvent Config.hw s) = if 400 ≤ storedBpm s ∧ storedBpm s ≤ 3000 then [] else [3] := by
  have hwin := inWindow_iff Config.hw s.persistedBpm
  rw [persistedBpm_eq_storedBpm, Config.hw_minimumBpm, Config.hw_maximumBpm] at hwin
  rw [bootEvent_eq]
  refine ⟨sinkOut_of_kept rfl, storeOut_of_append rfl, diagOut_of_append ?_⟩
  by_cases h : 400 ≤ storedBpm s ∧ storedBpm s ≤ 3000
  · simp [hwin.2 h, h]
  · simp [mt hwin.1 h, h, diagBadPersisted]

theorem tickEvent_out (now : Word) (s : State) :
    sinkOut s (tickEvent Config.hw now s) = [] ∧ storeOut s (tickEvent Config.hw now s) = [] ∧
    diagOut s (tickEvent Config.hw now s) = if Stale s now then [1] else [] := by
  simp only [tickEvent, checkTimeout_eq, timedOut_hw_iff]
  split
  · exact ⟨sinkOut_of_kept rfl, storeOut_of_kept rfl, diagOut_of_append rfl⟩
  · exact ⟨sinkOut_of_kept rfl, storeOut_of_kept rfl, diagOut_of_kept rfl⟩

theorem utickEvent_out (s : State) :
    sinkOut s (utickEvent Config.hw s) = [] ∧ storeOut s (utickEvent Config.hw s) = [] ∧
    diagOut s (utickEvent Config.hw s) =
      if s.tmrEn = true ∧ s.irqPending = true ∧ s.tmrPeriod.toNat ≤ s.tmrElapsed.toNat + 1 then [4] else [] := by
  have frame := eventBody_frame Config.hw .utick s
  refine ⟨sinkOut_of_kept (congrArg State.sinkTrace frame :), storeOut_of_kept (congrArg State.pwriteTrace frame :), ?_⟩
  obtain ⟨he, h⟩ | ⟨-, hlt, h⟩ | ⟨-, -, hi, h⟩ | ⟨he, hle, hi, h⟩ := utickEvent_cases Config.hw s <;> rw [h]
  · rw [if_neg (by simp [he])]
    exact diagOut_of_kept rfl
  · rw [if_neg (by omega)]
    exact diagOut_of_kept rfl
  · rw [if_neg (by simp [hi])]
    exact diagOut_of_kept rfl
  · rw [if_pos ⟨he, hi, hle⟩]
    exact diagOut_of_append rfl

theorem isrEvent_out (s : State) :
    sinkOut s (isrEvent Config.hw s) = [0xF8] ∧ storeOut s (isrEvent Config.hw s) = [] ∧
    diagOut s (isrEvent Config.hw s) = [] := by
  rw [isrEvent_eq]
  exact ⟨sinkOut_of_append rfl, storeOut_of_kept rfl, diagOut_of_kept rfl⟩

/-- A TAP reports a timeout, writes the tempo of a fourth tap, or reports that it gives none (R106, R139, R201). -/
theorem tapEvent_out (now : Word) (s : State) :
    sinkOut s (tapEvent Config.hw now s) = [] ∧
    (storeOut s (tapEvent Config.hw now s) =
      if ¬ Stale s now ∧ s.tapCount = 3 ∧ 1 ≤ averageTo s now ∧ averageTo s now ≤ 600000
      then [(.msb, (tapEvent Config.hw now s).bpm.extractLsb' 8 8),
        (.lsb, (tapEvent Config.hw now s).bpm.extractLsb' 0 8)]
      else []) ∧
    diagOut s (tapEvent Config.hw now s) =
      if Stale s now then [1]
      else if s.tapCount = 3 ∧ (averageTo s now = 0 ∨ 600000 < averageTo s now) then [2] else [] := by
  have frame := eventBody_frame Config.hw (.tap now) s
  refine ⟨sinkOut_of_kept (congrArg State.sinkTrace frame :), ?_⟩
  obtain ⟨ht, h⟩ | ⟨ht, hc, h⟩ | ⟨ht, hc, h⟩ | ⟨ht, hc, h⟩ | ⟨ht, h3, havg, h⟩ | ⟨ht, h3, havg, h⟩ | ⟨ht, hc, h⟩ :=
    tapEvent_cases Config.hw now s <;> rw [h]
  case inl =>
    have hs := (timedOut_hw_iff s now).1 ht
    rw [if_neg fun hn => hn.1 hs, if_pos hs]
    exact ⟨storeOut_of_kept rfl, diagOut_of_append rfl⟩
  case inr.inr.inr.inr.inl =>
    rw [Config.kMs_eq] at havg
    rw [if_neg (by omega), if_neg (not_stale_of_not_timedOut ht), if_pos ⟨h3, havg⟩]
    exact ⟨storeOut_of_kept rfl, diagOut_of_append rfl⟩
  case inr.inr.inr.inr.inr.inl =>
    rw [Config.kMs_eq] at havg
    have hns := not_stale_of_not_timedOut ht
    rw [if_pos ⟨hns, h3, havg⟩, if_neg hns, if_neg (by omega), clearTaps_applyTempo_eq]
    exact ⟨storeOut_of_append rfl, diagOut_of_kept rfl⟩
  all_goals
    have h3 : s.tapCount ≠ 3 := fun h3 => by simp [h3] at hc
    rw [if_neg fun hn => h3 hn.2.1, if_neg (not_stale_of_not_timedOut ht), if_neg fun hn => h3 hn.1]
    exact ⟨storeOut_of_kept rfl, diagOut_of_kept rfl⟩

/-- A refused event puts nothing out (R77). -/
theorem refused_out (s : State) :
    sinkOut s { s with refused := true } = [] ∧ storeOut s { s with refused := true } = [] ∧
    diagOut s { s with refused := true } = [] :=
  ⟨sinkOut_of_kept rfl, storeOut_of_kept rfl, diagOut_of_kept rfl⟩

/-- Settles O57: the LED level by its definition, a refused event by R77, and each enabled event by its outcomes. -/
theorem portsShowWhatAStepPutsOut : Obligations.PortsShowWhatAStepPutsOut := by
  refine ⟨fun _ => rfl, fun i s t he h => ?_, fun s t hb h => ?_, fun s t now hb h => ?_, fun s t now hb h => ?_,
    fun s t h => ?_, fun s t hi h => ?_⟩ <;> obtain rfl := exec_next_iff.1 h
  · rw [eventStep_refused he]
    exact refused_out s
  · rw [eventStep_enabled (by simp [enabled, hb])]
    exact bootEvent_out s
  · rw [eventStep_enabled (i := .tick now) hb]
    exact tickEvent_out now s
  · rw [eventStep_enabled (i := .tap now) hb]
    exact tapEvent_out now s
  · exact utickEvent_out s
  · rw [eventStep_enabled (i := .isr) hi]
    exact isrEvent_out s

end Sys2Proof.Machine
end

section
/-! PROOFS. The persisted bytes (R52), schedules and REFUSED (R61, R42), and the MAIN events beside the handler (R60). -/

namespace Sys2Proof.Machine

/-! ## The persisted BPM -/

theorem toWord_toNat_self (v : Word) : toWord v.toNat = v :=
  BitVec.eq_of_toNat_eq (toWord_toNat_of_lt v.isLt)

/-- The two bytes of a persistence write, as numbers (R139). -/
theorem persistWrite_eq_ofNat (bpm : Word) (s : State) :
    persistWrite bpm s =
      { s with pwriteTrace := s.pwriteTrace ++
          [(.msb, BitVec.ofNat 8 (bpm.toNat / 256)), (.lsb, BitVec.ofNat 8 bpm.toNat)] } := by
  rw [persistWrite_eq, ← toWord_msb bpm.isLt, ← toWord_lsb bpm.isLt, toWord_toNat_self]

theorem withStore_persistedBpm (s : State) (m l : Byte) :
    (s.withStore m l).persistedBpm = (m ++ l : BitVec (8 + 8)) := by
  rw [State.persistedBpm, State.withStore_storeByte_msb, State.withStore_storeByte_lsb]

/-- Settles O49, by reading the presented bytes back, and by the two bytes of a write. -/
theorem persistedBpmIsBigEndian : Obligations.PersistedBpmIsBigEndian :=
  ⟨withStore_persistedBpm, persistWrite_eq_ofNat, rfl, rfl⟩

/-! ## Schedules -/

/-- REFUSED after a run: what it was, or 1 if the events are no schedule (R42, R61). -/
theorem runEvents_refused (p : Config.Params) (is : List Instr) (s : State) :
    (runEvents p is s).refused = (s.refused || !isSchedule p is s) := by
  induction is generalizing s with
  | nil => simp [runEvents, isSchedule]
  | cons i is ih =>
    rw [runEvents, ih, eventStep_refusedBit, isSchedule, Bool.not_and, Bool.or_assoc]

/-- Settles O39, by what a run leaves in REFUSED. -/
theorem refusedMarksExactlyTheNonSchedules : Obligations.RefusedMarksExactlyTheNonSchedules := by
  intro p is s hs
  simp [runEvents_refused, hs]

/-! ## MAIN events and the handler

The handler reads and writes five fields alone, and no MAIN body reads or writes any of them (R43, R207). -/

/-- The state `s` with the fields that the event ISR may write (R43, R77) as they are in `r`. -/
def State.withHandlerFields (s r : State) : State :=
  { s with
    irqPending := r.irqPending, sinkTrace := r.sinkTrace, pulseCounter := r.pulseCounter, ledOn := r.ledOn,
    refused := r.refused }

theorem State.withHandlerFields_self (s : State) : s.withHandlerFields s = s := rfl

theorem enabled_withHandlerFields {i : Instr} (hi : agentOf i = .main) (s r : State) :
    enabled i (s.withHandlerFields r) = enabled i s := by
  cases i with
  | utick | isr => cases hi
  | boot | tick | tap => rfl

theorem bootEvent_withHandlerFields (p : Config.Params) (s r : State) :
    bootEvent p (s.withHandlerFields r) = (bootEvent p s).withHandlerFields r := by
  rw [bootEvent_eq, bootEvent_eq]
  rfl

theorem checkTimeout_withHandlerFields (p : Config.Params) (now : Word) (s r : State) :
    checkTimeout p now (s.withHandlerFields r) = (checkTimeout p now s).withHandlerFields r := by
  have ht : (s.withHandlerFields r).timedOut p now = s.timedOut p now := rfl
  rw [checkTimeout_eq, checkTimeout_eq, ht]
  split <;> rfl

theorem recompute_withHandlerFields (p : Config.Params) (s r : State) :
    recompute p (s.withHandlerFields r) = (recompute p s).withHandlerFields r := by
  obtain ⟨hrej, h⟩ | ⟨h0, hk, h⟩ := recompute_cases p s <;> rw [h]
  · rw [recompute_rejected p (s.withHandlerFields r) hrej]
    rfl
  · rw [recompute_applied p (s.withHandlerFields r) h0 hk, applyTempo_eq, applyTempo_eq]
    rfl

theorem recordTap_withHandlerFields (p : Config.Params) (now : Word) (s r : State) :
    recordTap p now (s.withHandlerFields r) = (recordTap p now s).withHandlerFields r := by
  have hroom : (s.withHandlerFields r).hasRoom = s.hasRoom := rfl
  have happend : appendTap now (s.withHandlerFields r) = (appendTap now s).withHandlerFields r := rfl
  have hfull : ((appendTap now s).withHandlerFields r).full = (appendTap now s).full := rfl
  simp only [recordTap, hroom, happend, hfull, recompute_withHandlerFields]
  split
  · split <;> rfl
  · rfl

/-- No MAIN body reads or writes a field of the handler (R43). -/
theorem eventBody_withHandlerFields (p : Config.Params) {i : Instr} (hi : agentOf i = .main) (s r : State) :
    eventBody p i (s.withHandlerFields r) = (eventBody p i s).withHandlerFields r := by
  cases i with
  | boot => exact bootEvent_withHandlerFields p s r
  | tick now => exact checkTimeout_withHandlerFields p now s r
  | tap now =>
    rw [eventBody, tapEvent, checkTimeout_withHandlerFields, recordTap_withHandlerFields]
    rfl
  | utick | isr => cases hi

/-- ISR, refused or not, reads and writes the handler's fields alone (R43, R207). -/
theorem eventStep_isr_withHandlerFields (p : Config.Params) (s r : State) :
    eventStep p .isr (s.withHandlerFields r) = s.withHandlerFields (eventStep p .isr r) := by
  obtain ⟨he, h⟩ | ⟨he, h⟩ := eventStep_cases p .isr r <;> rw [h]
  · rw [eventStep_enabled (s := s.withHandlerFields r) he, eventBody, eventBody, isrEvent_eq, isrEvent_eq]
    rfl
  · rw [eventStep_refused (s := s.withHandlerFields r) he]
    rfl

/-- A refusal before ISR is as good as one after it (R77). -/
theorem eventStep_isr_setRefused (p : Config.Params) (s : State) :
    eventStep p .isr { s with refused := true } = { eventStep p .isr s with refused := true } := by
  obtain ⟨he, h⟩ | ⟨he, h⟩ := eventStep_cases p .isr s <;> rw [h]
  · rw [eventStep_enabled (s := { s with refused := true }) he, eventBody, eventBody, isrEvent_eq, isrEvent_eq]
  · rw [eventStep_refused (s := { s with refused := true }) he]

/-- Settles O38: ISR is a change of the handler's fields, which depends on them alone, and which a MAIN body carries over. -/
theorem mainEventsCommuteWithTheHandler : Obligations.MainEventsCommuteWithTheHandler := by
  intro p i s hi
  have isr_eq : eventStep p .isr s = s.withHandlerFields (eventStep p .isr s) := eventStep_isr_withHandlerFields p s s
  have enabled_eq : enabled i (eventStep p .isr s) = enabled i s := by rw [isr_eq, enabled_withHandlerFields hi]
  obtain ⟨he, h⟩ | ⟨he, h⟩ := eventStep_cases p i s <;> rw [h]
  · calc eventStep p i (eventStep p .isr s)
      _ = eventBody p i (eventStep p .isr s) := eventStep_enabled (enabled_eq.trans he)
      _ = eventBody p i (s.withHandlerFields (eventStep p .isr s)) := congrArg _ isr_eq
      _ = (eventBody p i s).withHandlerFields (eventStep p .isr s) := eventBody_withHandlerFields p hi s _
      _ = eventStep p .isr ((eventBody p i s).withHandlerFields s) := (eventStep_isr_withHandlerFields p _ s).symm
      _ = eventStep p .isr (eventBody p i s) := by rw [← eventBody_withHandlerFields p hi, s.withHandlerFields_self]
  · rw [eventStep_refused (enabled_eq.trans he), eventStep_isr_setRefused]

end Sys2Proof.Machine
end

section
/-! PROOFS. The decoder's three answers, from the two checks of R74 and R76, and what a step refuses: the words with no
meaning (R76) and the events that are not legal (R77). -/

namespace Sys2Proof

/-! ## What the decoder answers -/

theorem EvFields.opKnown_iff (f : EvFields) :
    f.opKnown = true ↔ f.op = 1#8 ∨ f.op = 2#8 ∨ f.op = 3#8 ∨ f.op = 4#8 ∨ f.op = 5#8 := by
  simp only [EvFields.opKnown, Bool.and_eq_true, decide_eq_true_eq, BitVec.toNat_eq, BitVec.reduceToNat]
  omega

theorem Instr.fields_wellFormed (i : Instr) : i.fields.wellFormed = true := by
  cases i with
  | boot => exact Laws.FieldsWellFormed.boot
  | tick now => exact Laws.FieldsWellFormed.tick now
  | tap now => exact Laws.FieldsWellFormed.tap now
  | utick => exact Laws.FieldsWellFormed.utick
  | isr => exact Laws.FieldsWellFormed.isr

/-- The answer for a code that takes no operand (R70, R76). -/
theorem decodeFields_of_noOperand {f : EvFields} {i : Instr} (hd : decodeFields f = noOperand f.arg i)
    (hlegal : f.argLegal = decide (f.arg.toNat = 0)) (hi : f.arg = 0 → f = i.fields) :
    (f.argLegal = false ∧ decodeFields f = .error .nonzeroArg) ∨
    ∃ j : Instr, f = j.fields ∧ decodeFields f = .ok j := by
  by_cases h0 : f.arg = 0
  · exact .inr ⟨i, hi h0, by rw [hd, noOperand, if_pos h0]⟩
  · refine .inl ⟨?_, by rw [hd, noOperand, if_neg h0]⟩
    rw [hlegal, decide_eq_false_iff_not]
    exact fun h => h0 (BitVec.eq_of_toNat_eq h)

/-- All that decoding can answer: a reserved code, a forbidden operand, or the event with these fields (R74, R76). -/
theorem decodeFields_cases (f : EvFields) :
    (f.opKnown = false ∧ decodeFields f = .error .reservedOp) ∨
    (f.opKnown = true ∧ f.argLegal = false ∧ decodeFields f = .error .nonzeroArg) ∨
    ∃ i : Instr, f = i.fields ∧ decodeFields f = .ok i := by
  cases hk : f.opKnown
  · have hop := mt f.opKnown_iff.2 (Bool.eq_false_iff.1 hk)
    simp only [not_or] at hop
    exact .inl ⟨rfl, by simp [decodeFields, hop]⟩
  · refine .inr (.imp_left (.intro rfl) ?_)
    have hop := f.opKnown_iff.1 hk
    obtain ⟨op, arg⟩ := f
    obtain rfl | rfl | rfl | rfl | rfl := hop
    · exact decodeFields_of_noOperand (i := .boot) rfl rfl (by rintro rfl; rfl)
    · exact .inr ⟨.tick arg, rfl, rfl⟩
    · exact .inr ⟨.tap arg, rfl, rfl⟩
    · exact decodeFields_of_noOperand (i := .utick) rfl rfl (by rintro rfl; rfl)
    · exact decodeFields_of_noOperand (i := .isr) rfl rfl (by rintro rfl; rfl)

/-- An event is read from its own word alone (R70, R73). -/
theorem eq_encode_of_decode {w : EventWord} {i : Instr} (h : decode w = .ok i) : w = encode i := by
  obtain ⟨-, hd⟩ | ⟨-, -, hd⟩ | ⟨j, hf, hd⟩ := decodeFields_cases (splitWord w) <;> rw [decode, hd] at h <;> cases h
  rw [encode, ← hf, joinWord_splitWord]

/-- Settles O1: only an event's own fields decode to it, and joining and splitting a word undo each other. -/
theorem decodeIsInverseOfEncode : Obligations.DecodeIsInverseOfEncode := fun _ i =>
  ⟨eq_encode_of_decode, fun h => h ▸ Machine.decode_encode i⟩

/-! ## Which words are refused -/

theorem opKnown_splitWord_eq_false_iff (w : EventWord) :
    (splitWord w).opKnown = false ↔ w.toNat / 2 ^ 32 = 0 ∨ 6 ≤ w.toNat / 2 ^ 32 := by
  rw [← Bool.not_eq_true, EvFields.opKnown, Bool.and_eq_true, decide_eq_true_eq, decide_eq_true_eq, splitWord_op_toNat]
  omega

theorem argLegal_splitWord_eq_false_iff (w : EventWord) :
    (splitWord w).argLegal = false ↔
      w.toNat / 2 ^ 32 ≠ 2 ∧ w.toNat / 2 ^ 32 ≠ 3 ∧ w.toNat % 2 ^ 32 ≠ 0 := by
  simp only [EvFields.argLegal, Bool.or_eq_false_iff, decide_eq_false_iff_not, splitWord_op_toNat, splitWord_arg_toNat,
    and_assoc, ne_eq]

/-- The two reasons in terms of the two checks, which an event's fields pass (R74, R76). -/
theorem decode_refusals (w : EventWord) :
    (decode w = .error .reservedOp ↔ (splitWord w).opKnown = false) ∧
    (decode w = .error .nonzeroArg ↔ (splitWord w).opKnown = true ∧ (splitWord w).argLegal = false) ∧
    decode w ≠ .error .notEnabled := by
  rw [decode]
  obtain ⟨hk, hd⟩ | ⟨hk, hl, hd⟩ | ⟨i, hf, hd⟩ := decodeFields_cases (splitWord w)
  · simp [hd, hk]
  · simp [hd, hk, hl]
  · have hwf := i.fields_wellFormed
    rw [← hf, EvFields.wellFormed, Bool.and_eq_true] at hwf
    simp [hd, hwf]

/-- Settles O2: the two checks as conditions on OP and ARG. -/
theorem decodeRefusesExactlyTheReservedWords : Obligations.DecodeRefusesExactlyTheReservedWords := by
  intro w
  obtain ⟨hreserved, hnonzero, hother⟩ := decode_refusals w
  refine ⟨hreserved.trans (opKnown_splitWord_eq_false_iff w), hnonzero.trans ?_, hother⟩
  rw [← Bool.not_eq_false, opKnown_splitWord_eq_false_iff, argLegal_splitWord_eq_false_iff]
  omega

/-- Settles O3, by evaluation of the ten words. -/
theorem vectorWordsDecode : Obligations.VectorWordsDecode :=
  ⟨rfl, rfl, rfl, rfl, rfl, rfl, rfl, rfl, rfl, rfl⟩

namespace Machine

/-! ## What a step refuses -/

/-- A word that names no event is used up and sets REFUSED alone (R76). -/
theorem step_of_decode_error {s : State} {w : EventWord} {ws : List EventWord} {r : RefuseReason}
    (hs : s.events = w :: ws) (hw : decode w = .error r) : step s = .next { s with events := ws, refused := true } := by
  rw [step_cons hs, runWord, hw]
  rfl

/-- Settles O5: such a word does not decode. -/
theorem stepRefusesWordsWithNoMeaning : Obligations.StepRefusesWordsWithNoMeaning := by
  intro s w ws hs hw
  obtain ⟨hreserved, hnonzero, -⟩ := decodeRefusesExactlyTheReservedWords w
  obtain hop | harg := or_assoc.2 hw
  · exact step_of_decode_error hs (hreserved.2 hop)
  · exact step_of_decode_error hs (hnonzero.2 harg)

/-- An event that is not legal sets REFUSED alone (R77). -/
theorem exec_refused {i : Instr} {s : State} (h : enabled i s = false) : exec i s = .next { s with refused := true } := by
  rw [exec_eq, eventStep_refused h]

/-- Settles O9: an event that is not enabled is refused, and UTICK, which always is, counts only while the timer is on. -/
theorem eventsThatAreNotEnabledAreRefused : Obligations.EventsThatAreNotEnabledAreRefused := by
  refine ⟨fun s h => exec_refused (by simp [enabled, h]), fun s now h => exec_refused h, fun s now h => exec_refused h,
    fun s h => exec_refused h, fun s h => ?_, fun s => ⟨_, exec_eq .utick s, eventBody_refused Config.hw .utick s⟩⟩
  rw [exec_eq, eventStep_enabled rfl, eventBody, utickEvent, h]
  rfl

end Machine

end Sys2Proof
end

section
/-! PROOFS. The eager schedule (R79, R240), and the assembler's lines and expansions (R78, R79). -/

namespace Sys2Proof.Machine

open Sys2Proof.Safety

/-! ## The eager schedule -/

theorem uwaitEager_succ_pending {p : Config.Params} {s : State} (n : Nat)
    (h : (eventStep p .utick s).irqPending = true) :
    uwaitEager p (n + 1) s = .utick :: .isr :: uwaitEager p n (eventStep p .isr (eventStep p .utick s)) :=
  if_pos h

theorem uwaitEager_succ_quiet {p : Config.Params} {s : State} (n : Nat)
    (h : (eventStep p .utick s).irqPending = false) :
    uwaitEager p (n + 1) s = .utick :: uwaitEager p n (eventStep p .utick s) :=
  if_neg (by simp [h])

/-- A microsecond that finds no interrupt pending loses no firing (R204). -/
theorem eventStep_utick_faultOverrun {p : Config.Params} {s : State} (h : s.irqPending = false) :
    (eventStep p .utick s).faultOverrun = s.faultOverrun := by
  rw [eventStep_enabled rfl, eventBody, utickEvent_faultOverrun]
  simp [h]

/-- Nothing is pending after ISR: handled, or refused because nothing was (R163, R77). -/
theorem eventStep_isr_irqPending (p : Config.Params) (s : State) : (eventStep p .isr s).irqPending = false := by
  obtain ⟨-, h⟩ | ⟨he, h⟩ := eventStep_cases p .isr s <;> rw [h]
  · rw [eventBody, isrEvent_eq]
  · exact he

/-- Settles O54, by induction on the microseconds: each finds nothing pending, and the handler clears what it leaves. -/
theorem eagerScheduleNeverOverruns : Obligations.EagerScheduleNeverOverruns := by
  intro p n
  induction n with
  | zero => exact fun s hs => ⟨rfl, rfl, hs⟩
  | succ n ih =>
    intro s hs
    have hfault := eventStep_utick_faultOverrun (p := p) hs
    cases hirq : (eventStep p .utick s).irqPending
    · obtain ⟨hsched, hrun, hend⟩ := ih _ hirq
      rw [uwaitEager_succ_quiet n hirq]
      exact ⟨hsched, hrun.trans hfault, hend⟩
    · obtain ⟨hsched, hrun, hend⟩ := ih _ (eventStep_isr_irqPending p (eventStep p .utick s))
      rw [uwaitEager_succ_pending n hirq]
      refine ⟨?_, hrun.trans ((eventStep_faultOverrun (by decide)).trans hfault), hend⟩
      simp [isSchedule, enabled, hirq, hsched]

namespace Assembler

/-! ## Expansions -/

/-- One item alone expands as it does in the state where it stands (R79). -/
theorem expandAll_singleton (p : Config.Params) (it : Item) (s : State) : expandAll p [it] s = expand p s it :=
  List.append_nil _

theorem assemble_append (p : Config.Params) (items rest : List Item) (s : State) :
    assemble p (items ++ rest) s = assemble p items s ++ assemble p rest (runEvents p (expandAll p items s) s) := by
  rw [assemble, expandAll_append, List.map_append, assemble, assemble]

theorem parseLine_comment (line comment : List Char) : parseLine (line ++ ';' :: comment) = parseLine line := by
  rw [parseLine, dropComment_semicolon, parseLine]

/-- Settles O58: the lines by evaluation, a single item by its own expansion, a list of items part by part. -/
theorem assemblerExpandsLines : Obligations.AssemblerExpandsLines := by
  refine ⟨rfl, rfl, rfl, parseLine_comment, fun p s => ⟨fun i => rfl, fun n => ?_, rfl, fun n => ?_, fun t0 d k => ?_,
    fun items rest => assemble_append p items rest s⟩⟩
  · rw [expandAll_singleton]
    rfl
  · simp only [expandAll_singleton]
    rfl
  · rw [expandAll_singleton]
    exact tapSeq_eq_map t0 d k

/-! ## Lines with operands -/

theorem plain_of_forall_isDigit {cs : List Char} (h : ∀ c ∈ cs, c.isDigit = true) : ∀ c ∈ cs, Plain c :=
  fun c hc => plain_of_isDigit (h c hc)

/-- A line of an event's mnemonic and a time gives the event at that time, or is rejected (R78). -/
theorem parseLine_time {m cs : List Char} {n : Nat} {event : Word → Instr} (hm : m ≠ []) (hmp : ∀ c ∈ m, Plain c)
    (hitem : itemOf [m, cs] = (wordNumber cs).map fun now => .event (event now)) (hne : cs ≠ [])
    (hplain : ∀ c ∈ cs, Plain c) (hn : number cs = some n) :
    parseLine (m ++ ' ' :: cs) = if n < 2 ^ 32 then some [.event (event (BitVec.ofNat 32 n))] else none := by
  rw [parseLine_operand hm hmp hne hplain, hitem, wordNumber_of_number hn]
  split <;> rfl

/-- A line of a pseudo-instruction's mnemonic and a count (R79). -/
theorem parseLine_count {m cs : List Char} {n : Nat} {item : Nat → Item} (hm : m ≠ []) (hmp : ∀ c ∈ m, Plain c)
    (hitem : itemOf [m, cs] = (number cs).map item) (hne : cs ≠ []) (hplain : ∀ c ∈ cs, Plain c)
    (hn : number cs = some n) : parseLine (m ++ ' ' :: cs) = some [item n] := by
  rw [parseLine_operand hm hmp hne hplain, hitem, hn]
  rfl

/-- TICK and TAP lines take a time below 2^32, decimal or hexadecimal, and reject a larger one (R78). -/
theorem parseLine_tick_tap {cs : List Char} {n : Nat} (hne : cs ≠ []) (hplain : ∀ c ∈ cs, Plain c)
    (hn : number cs = some n) :
    (n < 2 ^ 32 →
      parseLine (['T', 'I', 'C', 'K', ' '] ++ cs) = some [.event (.tick (BitVec.ofNat 32 n))] ∧
      parseLine (['T', 'A', 'P', ' '] ++ cs) = some [.event (.tap (BitVec.ofNat 32 n))]) ∧
    (2 ^ 32 ≤ n →
      parseLine (['T', 'I', 'C', 'K', ' '] ++ cs) = none ∧ parseLine (['T', 'A', 'P', ' '] ++ cs) = none) := by
  have htick := parseLine_time (m := ['T', 'I', 'C', 'K']) (event := .tick) (by simp) (by simp [Plain]) rfl hne hplain hn
  have htap := parseLine_time (m := ['T', 'A', 'P']) (event := .tap) (by simp) (by simp [Plain]) rfl hne hplain hn
  exact ⟨fun h => ⟨htick.trans (if_pos h), htap.trans (if_pos h)⟩,
    fun h => ⟨htick.trans (if_neg (Nat.not_lt.2 h)), htap.trans (if_neg (Nat.not_lt.2 h))⟩⟩

/-! ## The TAPSEQ line -/

theorem closeToken_of_ne_nil {word : List Char} (h : word ≠ []) (rest : List (List Char)) :
    closeToken word rest = word :: rest := by
  rw [closeToken, if_neg (by simpa using h)]

/-- A word that ends at a blank. -/
theorem tokens_word_space {cs : List Char} (hne : cs ≠ []) (h : ∀ c ∈ cs, Plain c) (rest : List Char) :
    tokens [] (cs ++ ' ' :: rest) = cs :: tokens [] rest := by
  rw [tokens_plain h, tokens_space, List.nil_append, closeToken_of_ne_nil hne]

/-- A word that ends at a comma, with a blank after it. -/
theorem tokens_word_comma_space {cs : List Char} (hne : cs ≠ []) (h : ∀ c ∈ cs, Plain c) (rest : List Char) :
    tokens [] (cs ++ ',' :: ' ' :: rest) = cs :: [','] :: tokens [] rest := by
  rw [tokens_plain h, tokens_comma, List.nil_append, closeToken_of_ne_nil hne, tokens_space]
  rfl

section Tapseq

variable {ts ds ks : List Char}

theorem parseLine_tapseq (hts : ts ≠ []) (hds : ds ≠ []) (hks : ks ≠ []) (hpt : ∀ c ∈ ts, Plain c)
    (hpd : ∀ c ∈ ds, Plain c) (hpk : ∀ c ∈ ks, Plain c) :
    parseLine (['T', 'A', 'P', 'S', 'E', 'Q', ' '] ++ ts ++ [',', ' '] ++ ds ++ [',', ' '] ++ ks) =
      (itemOf [['T', 'A', 'P', 'S', 'E', 'Q'], ts, [','], ds, [','], ks]).map fun it => [it] := by
  have hline : ['T', 'A', 'P', 'S', 'E', 'Q', ' '] ++ ts ++ [',', ' '] ++ ds ++ [',', ' '] ++ ks =
      ['T', 'A', 'P', 'S', 'E', 'Q'] ++ ' ' :: (ts ++ ',' :: ' ' :: (ds ++ ',' :: ' ' :: ks)) := by simp
  have hcomment : ∀ c ∈ ['T', 'A', 'P', 'S', 'E', 'Q'] ++ ' ' :: (ts ++ ',' :: ' ' :: (ds ++ ',' :: ' ' :: ks)),
      c ≠ ';' := by
    have hst : ';' ∉ ts := fun h => (hpt _ h).2.2 rfl
    have hsd : ';' ∉ ds := fun h => (hpd _ h).2.2 rfl
    have hsk : ';' ∉ ks := fun h => (hpk _ h).2.2 rfl
    rintro c hc rfl
    simp [hst, hsd, hsk] at hc
  rw [hline, parseLine, dropComment_of_no_semicolon hcomment, tokens_word_space (by simp) (by simp [Plain]),
    tokens_word_comma_space hts hpt, tokens_word_comma_space hds hpd, tokens_last hks hpk]

theorem itemOf_tapseq {t d k : Nat} (ht : number ts = some t) (hd : number ds = some d) (hk : number ks = some k) :
    itemOf [['T', 'A', 'P', 'S', 'E', 'Q'], ts, [','], ds, [','], ks] =
      if t < 2 ^ 32 ∧ d < 2 ^ 32 then some (.tapseq (BitVec.ofNat 32 t) (BitVec.ofNat 32 d) k) else none := by
  simp only [itemOf, wordNumber_of_number ht, wordNumber_of_number hd, hk]
  by_cases h1 : t < 2 ^ 32
  · by_cases h2 : d < 2 ^ 32 <;> simp only [h1, h2, if_true, if_false, and_true, and_false]
  · simp only [h1, if_false, false_and]

end Tapseq

/-- Settles O59: each line by its mnemonic's reading, each number by the value of its digits. -/
theorem assemblerReadsNumbers : Obligations.AssemblerReadsNumbers := by
  refine ⟨fun ds hne hdec => ?_, rfl, rfl, fun ds hne hhex => ?_, fun ts ds ks hts hds hks hdec => ?_⟩
  · have hn := number_decimal hne hdec
    have hplain := plain_of_forall_isDigit hdec
    obtain ⟨hbelow, habove⟩ := parseLine_tick_tap hne hplain hn
    exact ⟨hbelow, habove,
      parseLine_count (m := ['U', 'W', 'A', 'I', 'T']) (item := .uwait) (by simp) (by simp [Plain]) rfl hne hplain hn,
      parseLine_count (m := ['U', 'W', 'A', 'I', 'T', '_', 'E', 'A', 'G', 'E', 'R']) (item := .uwaitEager)
        (by simp) (by simp [Plain]) rfl hne hplain hn⟩
  · have hplain : ∀ c ∈ '0' :: 'x' :: ds, Plain c :=
      List.forall_mem_cons.2 ⟨by decide, List.forall_mem_cons.2 ⟨by decide, fun c hc => plain_of_digit (hhex c hc)⟩⟩
    exact parseLine_tick_tap (by simp) hplain (number_hex hne hhex)
  · simp only [List.forall_mem_append] at hdec
    obtain ⟨⟨ht, hd⟩, hk⟩ := hdec
    rw [parseLine_tapseq hts hds hks (plain_of_forall_isDigit ht) (plain_of_forall_isDigit hd)
      (plain_of_forall_isDigit hk),
      itemOf_tapseq (number_decimal hts ht) (number_decimal hds hd) (number_decimal hks hk)]
    split <;> rfl

end Assembler

end Sys2Proof.Machine
end

section
/-! PROOFS. The tap buffer (R100 to R118): what TICK and TAP answer on this hardware, outcome by outcome, and the span,
the average and the tempo of the buffer that a fourth tap fills (R131, R132, R134). -/

namespace Sys2Proof.Machine

open Sys2Proof.Safety

/-! ## TICK and TAP in a booted state -/

theorem exec_tick_of_booted {s : State} (hb : s.booted = true) (now : Word) :
    exec (.tick now) s = .next (tickEvent Config.hw now s) := by
  rw [exec_eq, eventStep_enabled (i := .tick now) hb, eventBody]

theorem exec_tap_of_booted {s : State} (hb : s.booted = true) (now : Word) :
    exec (.tap now) s = .next (tapEvent Config.hw now s) := by
  rw [exec_eq, eventStep_enabled (i := .tap now) hb, eventBody]

/-- A TAP on a stale sequence is tap 1 of a new one, whatever the count was (R106). -/
theorem tapEvent_of_stale {s : State} {now : Word} (hs : Stale s now) :
    tapEvent Config.hw now s =
      { s with taps := { s.taps with t0 := now }, tapCount := 1, diagTrace := s.diagTrace ++ [1] } := by
  rw [tapEvent, checkTimeout_cleared ((timedOut_hw_iff s now).2 hs), recordTap_first _ _ rfl, diagTimeout]

/-- A TAP on a sequence that is not stale is `recordTap` alone (R104, R106). -/
theorem tapEvent_of_not_stale {s : State} {now : Word} (hs : ¬ Stale s now) :
    tapEvent Config.hw now s = recordTap Config.hw now s := by
  rw [tapEvent, checkTimeout_kept (Bool.eq_false_of_not_eq_true (mt (timedOut_hw_iff s now).1 hs))]

/-- With three taps in the buffer, the third decides whether the sequence is stale (R104). -/
theorem stale_iff_of_three {s : State} (h3 : s.tapCount = 3) (now : Word) :
    Stale s now ↔ 1500 < msBetween s.taps.t2 now := by
  simp [Stale, newestTap, h3]

/-! ## The fourth tap -/

section FourthTap

variable {s : State} {now : Word} (hs : ¬ Stale s now) (h3 : s.tapCount = 3)
include hs h3

/-- The fourth tap joins the buffer, and stays there when the count is cleared (R108, R110). -/
theorem tapEvent_fourth_taps : (tapEvent Config.hw now s).taps = { s.taps with t3 := now } := by
  rw [tapEvent_of_not_stale hs, recordTap_fourth _ _ h3]
  obtain ⟨-, h⟩ | ⟨-, -, h⟩ := recompute_cases Config.hw { s with taps := { s.taps with t3 := now }, tapCount := 4 }
  · rw [h]; rfl
  · rw [h, clearTaps_applyTempo_eq]

/-- The span of the buffer that the fourth tap fills (R131). -/
theorem tapSpan_tapEvent_fourth : (tapEvent Config.hw now s).tapSpan.toNat = msBetween s.taps.t0 now := by
  simp [State.tapSpan, tapEvent_fourth_taps hs h3, sub32_eq_msBetween]

theorem tapEvent_fourth_rejected (h : averageTo s now = 0 ∨ 600000 < averageTo s now) :
    tapEvent Config.hw now s =
      { s with taps := { s.taps with t3 := now }, tapCount := 0, diagTrace := s.diagTrace ++ [2] } := by
  rw [tapEvent_of_not_stale hs, recordTap_fourth _ _ h3, recompute_rejected _ _ (by rwa [tapAverage_of_fourth])]
  rfl

theorem tapEvent_fourth_applied (h1 : 1 ≤ averageTo s now) (hk : averageTo s now ≤ 600000) :
    tapEvent Config.hw now s =
      { s with
        taps := { s.taps with t3 := now }
        tapCount := 0
        bpm := BitVec.ofNat 32 (600000 / averageTo s now)
        tmrPeriod := BitVec.ofNat 32 (600000000 / (600000 / averageTo s now) / 24)
        tmrElapsed := 0
        tmrMask := false
        pwriteTrace := s.pwriteTrace ++
          [(.msb, BitVec.ofNat 8 (600000 / averageTo s now / 256)), (.lsb, BitVec.ofNat 8 (600000 / averageTo s now))] } := by
  have hlt : 600000 / averageTo s now < 2 ^ 32 := Nat.lt_of_le_of_lt (Nat.div_le_self _ _) (by decide)
  rw [tapEvent_of_not_stale hs, recordTap_fourth _ _ h3,
    recompute_applied _ _ (by rw [tapAverage_of_fourth]; omega) (by rwa [tapAverage_of_fourth]),
    tapAverage_of_fourth, clampBpm_off rfl, clearTaps_applyTempo_eq, Config.kMs_eq]
  generalize 600000 / averageTo s now = bpm at hlt
  rw [toWord_msb hlt, toWord_lsb hlt, toWord_toNat_of_lt hlt]
  simp [periodOf, toWord]

end FourthTap

/-! ## The gaps of a filled buffer -/

/-- Three gaps of at most 1500 ms add up to the span without a wrap (R114, R132). -/
theorem msBetween_eq_sum_of_gaps {s : State} {now : Word} (hg : TapGaps Config.hw s) (h3 : s.tapCount = 3)
    (hnew : msBetween s.taps.t2 now ≤ 1500) :
    msBetween s.taps.t0 now =
      msBetween s.taps.t0 s.taps.t1 + msBetween s.taps.t1 s.taps.t2 + msBetween s.taps.t2 now ∧
    msBetween s.taps.t0 now ≤ 4500 := by
  have hsecond := hg.second (by simp [h3])
  have hthird := hg.third (by simp [h3])
  rw [sub32_eq_msBetween, Config.hw_maximumTapInterval] at hsecond hthird
  have h02 := msBetween_trans s.taps.t0 s.taps.t1 s.taps.t2
  have h03 := msBetween_trans s.taps.t0 s.taps.t2 now
  omega

/-- Under the debounce contract the average is at least 20 ms (R116). -/
theorem averageTo_ge_of_debounced {s : State} {now : Word} {ms : Nat} (hg : TapGaps Config.hw s) (h3 : s.tapCount = 3)
    (hnew : msBetween s.taps.t2 now ≤ 1500)
    (hdebounced : DebounceContract ms [s.taps.t0, s.taps.t1, s.taps.t2, now]) : 20 ≤ averageTo s now := by
  obtain ⟨hms, h01, -, h12, -, h23, -⟩ := hdebounced
  rw [sub32_eq_msBetween] at h01 h12 h23
  obtain ⟨hsum, -⟩ := msBetween_eq_sum_of_gaps hg h3 hnew
  unfold averageTo
  omega

/-- The tempo of an average from 20 to 1500 ms, and its period (R116, R134). -/
theorem debouncedTempo_range {avg : Nat} (h20 : 20 ≤ avg) (h1500 : avg ≤ 1500) :
    400 ≤ 600000 / avg ∧ 600000 / avg ≤ 30000 ∧ 833 ≤ 600000000 / (600000 / avg) / 24 := by
  obtain ⟨hlo, -⟩ := tapBpm_range_hw (by omega) h1500
  rw [Config.kMs_eq] at hlo
  have hhi : 600000 / avg ≤ 600000 / 20 := Nat.div_le_div_left h20 (by decide)
  have hperiod : 600000000 / 30000 ≤ 600000000 / (600000 / avg) := Nat.div_le_div_left hhi (by omega)
  exact ⟨hlo, hhi, Nat.div_le_div_right (c := 24) hperiod⟩

/-! ## The obligations -/

/-- Settles O35: a stale sequence makes the TAP a first tap, and of the other outcomes the applied fourth tap alone writes. -/
theorem noEventBothClearsAndRecomputes : Obligations.NoEventBothClearsAndRecomputes := by
  intro s t now ht hb
  rw [exec_tap_of_booted hb, Host.Outcome.next.injEq] at ht
  subst ht
  refine ⟨fun hs => ?_, fun hwrites => ?_⟩
  · rw [tapEvent_of_stale hs]
    exact ⟨rfl, rfl, rfl, rfl⟩
  · obtain ⟨-, h⟩ | ⟨-, -, h⟩ | ⟨-, -, h⟩ | ⟨-, -, h⟩ | ⟨-, -, -, h⟩ | ⟨hout, h3, -, h⟩ | ⟨-, -, h⟩ :=
      tapEvent_cases Config.hw now s
    case inr.inr.inr.inr.inr.inl =>
      refine ⟨not_stale_of_not_timedOut hout, h3, ?_⟩
      rw [h, clearTaps_applyTempo_eq]
    all_goals exact absurd (by rw [h]) hwrites

/-- Settles O40: the span is the time from the first tap to the fourth, which is the sum of the gaps. -/
theorem gapsTelescope : Obligations.GapsTelescope := by
  intro s now hb h3 hg hs
  have hnew : msBetween s.taps.t2 now ≤ 1500 := Nat.le_of_not_lt (mt (stale_iff_of_three h3 now).2 hs)
  obtain ⟨hsum, hmax⟩ := msBetween_eq_sum_of_gaps hg h3 hnew
  have hspan := tapSpan_tapEvent_fourth hs h3
  refine ⟨_, exec_tap_of_booted hb now, ?_⟩
  rw [State.tapAverage, hspan, sub32_eq_msBetween, sub32_eq_msBetween, sub32_eq_msBetween, ← hsum]
  exact ⟨rfl, hmax, rfl⟩

/-- Settles O43: the contract bounds the average from below, the timeout from above, and the fourth tap applies its tempo. -/
theorem debouncedTapsKeepTheTempoAtMost30000 : Obligations.DebouncedTapsKeepTheTempoAtMost30000 := by
  intro s t now ms hb h3 hg hnew hdebounced ht
  have hs : ¬ Stale s now := mt (stale_iff_of_three h3 now).1 (Nat.not_lt_of_le hnew)
  have h20 := averageTo_ge_of_debounced hg h3 hnew hdebounced
  have h1500 := averageTo_le hg h3 hnew
  obtain ⟨hlo, hhi, hperiod⟩ := debouncedTempo_range h20 h1500
  have hmax : 600000000 / (600000 / averageTo s now) / 24 ≤ 600000000 :=
    Nat.le_trans (Nat.div_le_self _ _) (Nat.div_le_self _ _)
  rw [exec_tap_of_booted hb, tapEvent_fourth_applied hs h3 (by omega) (by omega), Host.Outcome.next.injEq] at ht
  subst ht
  simp only [BitVec.toNat_ofNat]
  rw [Nat.mod_eq_of_lt (by omega), Nat.mod_eq_of_lt (by omega)]
  exact ⟨h20, h1500, hlo, hhi, hperiod⟩

/-- Settles O12: TICK is the timeout check. -/
theorem tickClearsAStaleSequence : Obligations.TickClearsAStaleSequence := by
  intro s now hb
  simp only [exec_tick_of_booted hb, tickEvent, checkTimeout_eq, timedOut_hw_iff, diagTimeout]

/-- Settles O13, by the outcome of a TAP on a stale sequence. -/
theorem lateTapStartsANewSequence : Obligations.LateTapStartsANewSequence := by
  intro s now hb hs
  rw [exec_tap_of_booted hb, tapEvent_of_stale hs]

/-- Settles O14, by the append at each of the three counts. -/
theorem tapIsStoredAtTheNextFreeEntry : Obligations.TapIsStoredAtTheNextFreeEntry := by
  intro s now hb hs
  rw [exec_tap_of_booted hb, tapEvent_of_not_stale hs]
  exact ⟨fun h => by rw [recordTap_first _ _ h], fun h => by rw [recordTap_second _ _ h],
    fun h => by rw [recordTap_third _ _ h]⟩

/-- Settles O15, by the outcome of a fourth tap that is applied. -/
theorem fourthTapSetsTheTempo : Obligations.FourthTapSetsTheTempo := by
  intro s now hb hs h3 h1 hk
  rw [exec_tap_of_booted hb, tapEvent_fourth_applied hs h3 h1 hk]

/-- Settles O16, by the outcome of a fourth tap that is rejected. -/
theorem fourthTapWithNoTempoIsRejected : Obligations.FourthTapWithNoTempoIsRejected := by
  intro s now hb hs h3 havg
  rw [exec_tap_of_booted hb, tapEvent_fourth_rejected hs h3 havg]

/-- Settles O17: neither the check nor the append acts on a buffer with no free entry. -/
theorem tapWithAFullBufferHasNoEffect : Obligations.TapWithAFullBufferHasNoEffect := by
  intro s now hb h4
  have hs : ¬ Stale s now := fun ⟨_, hlt, _⟩ => Nat.not_lt_of_le h4 hlt
  rw [exec_tap_of_booted hb, tapEvent_of_not_stale hs, recordTap_full _ _ h4]

end Sys2Proof.Machine
end

section
/-! PROOFS. The tempo model (R130 to R140): the period, what `applyTempo` writes, the clamp, the persistence writes, and runs
of four taps at one spacing. -/

namespace Sys2Proof.Machine

open Sys2Proof.Safety

/-! ## The period -/

/-- The nested truncation on this hardware is one division (R136). -/
theorem periodOf_hw (bpm : Nat) : periodOf Config.hw bpm = 600000000 / (bpm * 24) := by
  rw [periodOf, Config.kUs_eq, Config.hw_ppb, Nat.div_div_eq_div_mul]

theorem periodOf_hw_range {bpm : Nat} (hlo : 400 ≤ bpm) (hhi : bpm ≤ 3000) :
    8333 ≤ periodOf Config.hw bpm ∧ periodOf Config.hw bpm ≤ 62500 := by
  rw [periodOf_hw, Nat.le_div_iff_mul_le (by omega), Nat.div_le_iff_le_mul_add_pred (by omega)]
  omega

/-- Where the period is above the tempo, the back-conversion loses nothing (R136): with 25000000 = bpm * period + r and
r < bpm < period, the division by the period gives bpm again. -/
theorem div_periodOf_hw {bpm : Nat} (h1 : 1 ≤ bpm) (hlt : bpm < periodOf Config.hw bpm) :
    600000000 / periodOf Config.hw bpm / 24 = bpm := by
  have hperiod : periodOf Config.hw bpm = 25000000 / bpm := by
    rw [periodOf_hw, Nat.mul_comm, ← Nat.div_div_eq_div_mul]
  have hmod : 25000000 % bpm < bpm := Nat.mod_lt _ h1
  have hsum : bpm * periodOf Config.hw bpm + 25000000 % bpm = 25000000 := hperiod ▸ Nat.div_add_mod 25000000 bpm
  rw [Nat.div_div_eq_div_mul, Nat.mul_comm, ← Nat.div_div_eq_div_mul]
  refine (Nat.div_eq_iff (by omega)).2 ⟨?_, ?_⟩ <;> omega

/-- Settles O47: one division, the values by evaluation, and the round trip because the period is above the tempo. -/
theorem periodArithmetic : Obligations.PeriodArithmetic := by
  refine ⟨fun bpm _ => periodOf_hw bpm, by decide, by decide, by decide, by decide, fun bpm hlo hhi => ?_⟩
  obtain ⟨hplo, hphi⟩ := periodOf_hw_range hlo hhi
  exact ⟨hplo, hphi, div_periodOf_hw (by omega) (by omega)⟩

/-! ## What a tempo that is applied writes -/

/-- Settles O46, by what `applyTempo` does as one record. -/
theorem applyTempoWritesTempoTimerAndStore : Obligations.ApplyTempoWritesTempoTimerAndStore := by
  intro p bpm persist s _ _
  rw [applyTempo_eq, periodOf, toWord, Config.kUs_eq]
  cases persist && p.persistEnable <;> simp

/-- With CLAMP_TAP_BPM the tempo of a tap lies in the window, under R9 (R134). -/
theorem clampBpm_inWindow {p : Config.Params} (hp : p.Legal) (hc : p.clampTapBpm = true) (n : Nat) :
    p.minimumBpm ≤ clampBpm p n ∧ clampBpm p n ≤ p.maximumBpm := by
  obtain ⟨_, _, _, _, _, hmin, hmax, _⟩ := hp
  rw [clampBpm, if_pos hc]
  omega

/-- Settles O44: of all outcomes of a TAP the applied fourth tap alone writes BPM, and what it writes is clamped. -/
theorem clampKeepsTheTempoInTheWindow : Obligations.ClampKeepsTheTempoInTheWindow := by
  intro p s now hp hc
  obtain ⟨-, he⟩ | ⟨-, he⟩ := eventStep_cases p (.tap now) s <;> rw [he]
  · rw [eventBody]
    obtain ⟨-, h⟩ | ⟨-, -, h⟩ | ⟨-, -, h⟩ | ⟨-, -, h⟩ | ⟨-, -, -, h⟩ | ⟨-, -, -, h⟩ | ⟨-, -, h⟩ :=
      tapEvent_cases p now s <;> rw [h]
    case inr.inr.inr.inr.inr.inl =>
      have hwin := clampBpm_inWindow hp hc (Config.kMs / averageTo s now)
      obtain ⟨_, _, _, _, _, _, _, hcap, _⟩ := hp
      right
      rw [clearTaps_applyTempo_eq, toWord_toNat_of_lt (by omega)]
      exact hwin
    all_goals exact .inl rfl
  · exact .inl rfl

/-! ## Persistence writes -/

/-- With three taps in the buffer, the timeout looks at the third (R104). -/
theorem timedOut_of_three (p : Config.Params) {s : State} (h3 : s.tapCount = 3) (now : Word) :
    s.timedOut p now = false ↔ msBetween s.taps.t2 now ≤ p.maximumTapInterval := by
  rw [← Bool.not_eq_true, timedOut_iff]
  simp [newestTap, h3]

/-- A TAP writes to the store exactly where it applies a tempo, and with `PERSIST_ENABLE` (R139, R140). -/
theorem tapEvent_pwriteTrace (p : Config.Params) (now : Word) (s : State) :
    (tapEvent p now s).pwriteTrace = s.pwriteTrace ++
      if p.persistEnable = true ∧ s.tapCount = 3 ∧ msBetween s.taps.t2 now ≤ p.maximumTapInterval ∧
        1 ≤ averageTo s now ∧ averageTo s now ≤ 600000
      then [(.msb, (tapEvent p now s).bpm.extractLsb' 8 8), (.lsb, (tapEvent p now s).bpm.extractLsb' 0 8)]
      else [] := by
  obtain ⟨ht, h⟩ | ⟨-, hc, h⟩ | ⟨-, hc, h⟩ | ⟨-, hc, h⟩ | ⟨-, -, havg, h⟩ | ⟨ht, h3, havg, h⟩ | ⟨-, hc, h⟩ :=
    tapEvent_cases p now s <;> rw [h]
  case inl =>
    rw [if_neg fun ⟨_, h3, hgap, _⟩ => by simp [(timedOut_of_three p h3 now).2 hgap] at ht, List.append_nil]
  case inr.inr.inr.inr.inl =>
    rw [Config.kMs_eq] at havg
    rw [if_neg (by omega), List.append_nil]
  case inr.inr.inr.inr.inr.inl =>
    rw [Config.kMs_eq] at havg
    simp [clearTaps_applyTempo_eq, h3, (timedOut_of_three p h3 now).1 ht, havg]
  all_goals rw [if_neg fun ⟨_, h3, _⟩ => by simp [h3] at hc, List.append_nil]

/-- Settles O36: BOOT and TAP by what they write, each other event by its frame, and a refused event writes nothing. -/
theorem persistenceWritesHappenInExactlyTheseCases : Obligations.PersistenceWritesHappenInExactlyTheseCases := by
  intro p i s
  have frame := eventStep_frame p i s
  cases i with
  | boot =>
    obtain ⟨he, h⟩ | ⟨he, h⟩ := eventStep_cases p .boot s <;> rw [enabled] at he
    · rw [h, eventBody, bootEvent_eq]
      simp [he]
    · simp [h, he]
  | tap now =>
    obtain ⟨he, h⟩ | ⟨he, h⟩ := eventStep_cases p (.tap now) s <;> rw [enabled] at he
    · rw [h, eventBody, tapEvent_pwriteTrace]
      simp [he, and_assoc]
    · simp [h, he]
  | _ => exact (congrArg State.pwriteTrace frame).trans (List.append_nil _).symm

/-! ## Taps at one spacing -/

theorem eventStep_tap_of_booted {p : Config.Params} {s : State} (hb : s.booted = true) (now : Word) :
    eventStep p (.tap now) s = tapEvent p now s :=
  eventStep_enabled (i := .tap now) hb

/-- A tap on an empty buffer is stored as the first (R108). -/
theorem tapEvent_first {s : State} (h0 : s.tapCount = 0) (now : Word) :
    tapEvent Config.hw now s = { s with taps := { s.taps with t0 := now }, tapCount := 1 } := by
  rw [tapEvent_of_not_stale (by simp [Stale, h0]), recordTap_first _ _ h0]

/-- The time from `a` to the clock `d` later is `d`, across the wrap too (R11). -/
theorem msBetween_add (a d : Word) : msBetween a (a + d) = d.toNat := by
  rw [← sub32_eq_msBetween, sub32, add_sub_cancel_left]

/-- A sequence is stale `d` after its newest tap exactly when `d` is above the timeout (R104). -/
theorem stale_add_iff {s : State} {a : Word} (h0 : 0 < s.tapCount.toNat) (h4 : s.tapCount.toNat < 4)
    (ha : newestTap s = a) (d : Word) : Stale s (a + d) ↔ 1500 < d.toNat := by
  rw [Stale, ha, msBetween_add]
  simp [h0, h4]

/-- A tap within the timeout of the newest one is `recordTap` alone (R106). -/
theorem eventStep_tap_within {s : State} {a d : Word} (hb : s.booted = true) (h0 : 0 < s.tapCount.toNat)
    (h4 : s.tapCount.toNat < 4) (ha : newestTap s = a) (hd : d.toNat ≤ 1500) :
    eventStep Config.hw (.tap (a + d)) s = recordTap Config.hw (a + d) s := by
  rw [eventStep_tap_of_booted hb, tapEvent_of_not_stale (mt (stale_add_iff h0 h4 ha d).1 (Nat.not_lt_of_le hd))]

/-- The state `s` with three taps in the buffer, `d` apart from `a` on. -/
def State.withThreeTaps (s : State) (a d : Word) : State :=
  { s with taps := { t0 := a, t1 := a + d, t2 := a + d + d, t3 := s.taps.t3 }, tapCount := 3 }

/-- Three taps within the timeout of one another fill three entries of an empty buffer (R108). -/
theorem runEvents_threeTaps {s : State} (hb : s.booted = true) (h0 : s.tapCount = 0) (a : Word) {d : Word}
    (hd : d.toNat ≤ 1500) : runEvents Config.hw (tapSeq a d 3) s = s.withThreeTaps a d := by
  rw [tapSeq, runEvents, eventStep_tap_of_booted hb, tapEvent_first h0,
    tapSeq, runEvents, eventStep_tap_within (by exact hb) (by simp) (by simp) (by rfl) hd, recordTap_second _ _ rfl,
    tapSeq, runEvents, eventStep_tap_within (by exact hb) (by simp) (by simp) (by rfl) hd, recordTap_third _ _ rfl]
  rfl

theorem not_stale_withThreeTaps (s : State) (a : Word) {d : Word} (hd : d.toNat ≤ 1500) :
    ¬ Stale (s.withThreeTaps a d) (a + d + d + d) :=
  mt (stale_add_iff (by simp [State.withThreeTaps]) (by simp [State.withThreeTaps]) rfl d).1 (Nat.not_lt_of_le hd)

theorem runEvents_fourTaps {s : State} (hb : s.booted = true) (h0 : s.tapCount = 0) (a : Word) {d : Word}
    (hd : d.toNat ≤ 1500) :
    runEvents Config.hw (tapSeq a d 4) s = tapEvent Config.hw (a + d + d + d) (s.withThreeTaps a d) := by
  have hbooted : (s.withThreeTaps a d).booted = true := hb
  rw [← eventStep_tap_of_booted hbooted, ← runEvents_threeTaps hb h0 a hd]
  rfl

/-- The average of four taps `d` apart is `d` (R132). -/
theorem averageTo_withThreeTaps (s : State) (a : Word) {d : Word} (hd : d.toNat ≤ 1500) :
    averageTo (s.withThreeTaps a d) (a + d + d + d) = d.toNat := by
  have h02 := msBetween_trans a (a + d) (a + d + d)
  have h03 := msBetween_trans a (a + d + d) (a + d + d + d)
  simp only [msBetween_add] at h02 h03
  change msBetween a (a + d + d + d) / 3 = d.toNat
  omega

/-- Settles O41: three taps leave one free entry, and the fourth applies the tempo of the average, which is d. -/
theorem equalSpacingGivesTheTempo : Obligations.EqualSpacingGivesTheTempo := by
  intro s a d hb h0 h1 h1500 t
  have hd : (BitVec.ofNat 32 d).toNat = d := toWord_toNat_of_lt (by omega)
  have hle := hd.trans_le h1500
  have ht : t = tapEvent Config.hw _ (s.withThreeTaps a (BitVec.ofNat 32 d)) := runEvents_fourTaps hb h0 a hle
  have havg := (averageTo_withThreeTaps s a hle).trans hd
  rw [tapEvent_fourth_applied (not_stale_withThreeTaps s a hle) rfl (by omega) (by omega), havg] at ht
  rw [ht]
  exact ⟨rfl, rfl, rfl, rfl, rfl, rfl⟩

/-- A tap more than 1500 ms after the only one in the buffer takes its place, with code 1; so does each of `k` taps (R106). -/
theorem runEvents_slowTaps {d : Word} (hd : 1500 < d.toNat) (k : Nat) {s : State} (hb : s.booted = true)
    (h1 : s.tapCount = 1) :
    ∃ a, runEvents Config.hw (tapSeq (s.taps.t0 + d) d k) s =
      { s with taps := { s.taps with t0 := a }, diagTrace := s.diagTrace ++ List.replicate k 1 } := by
  induction k generalizing s with
  | zero => exact ⟨s.taps.t0, by simp [tapSeq, runEvents]⟩
  | succ k ih =>
    have hs : Stale s (s.taps.t0 + d) := (stale_add_iff (by simp [h1]) (by simp [h1]) (by simp [newestTap, h1]) d).2 hd
    rw [tapSeq, runEvents, eventStep_tap_of_booted hb, tapEvent_of_stale hs]
    obtain ⟨a, ha⟩ := ih (s := { s with
      taps := { s.taps with t0 := s.taps.t0 + d }, tapCount := 1, diagTrace := s.diagTrace ++ [1] }) hb rfl
    exact ⟨a, by rw [ha, List.append_assoc, h1]; rfl⟩

/-- Settles O42: the first tap is stored, and each of the other three takes the place of the one before. -/
theorem slowTapsNeverSetTheTempo : Obligations.SlowTapsNeverSetTheTempo := by
  intro s a d hb h0 hd hlt t
  have ht : t = runEvents Config.hw (tapSeq (a + BitVec.ofNat 32 d) (BitVec.ofNat 32 d) 3)
      { s with taps := { s.taps with t0 := a }, tapCount := 1 } := by
    rw [← tapEvent_first h0, ← eventStep_tap_of_booted hb]; rfl
  obtain ⟨b, hrun⟩ := runEvents_slowTaps (d := BitVec.ofNat 32 d) (by rwa [BitVec.toNat_ofNat, Nat.mod_eq_of_lt hlt]) 3
    (s := { s with taps := { s.taps with t0 := a }, tapCount := 1 }) hb rfl
  rw [ht, hrun]
  exact ⟨rfl, rfl, rfl, rfl, rfl⟩

end Sys2Proof.Machine
end

section
/-! PROOFS. The timer between two events of MAIN: how it counts to the period, and when it expires after a tempo is applied
(R137, R161, R162). -/

namespace Sys2Proof.Machine

section Uwait

variable {p : Config.Params} {s : State}

/-- Short of the period, `n` microseconds only advance the count (R161, R162). -/
theorem runEvents_uwait_counts {n : Nat} (hen : s.tmrEn = true) (h : s.tmrElapsed.toNat + n < s.tmrPeriod.toNat) :
    runEvents p (uwait n) s = { s with tmrElapsed := toWord (s.tmrElapsed.toNat + n) } := by
  induction n with
  | zero => simp [uwait, runEvents, toWord_toNat_self]
  | succ n ih =>
    have := s.tmrPeriod.isLt
    have hcount : (toWord (s.tmrElapsed.toNat + n)).toNat = s.tmrElapsed.toNat + n := toWord_toNat_of_lt (by omega)
    rw [uwait, List.replicate_succ', runEvents_append, ← uwait, ih (by omega), runEvents, runEvents,
      eventStep_enabled rfl, eventBody, utickEvent, if_pos hen, timerStep_counts (by simp only [hcount]; omega), hcount,
      Nat.add_assoc]

/-- A microsecond that reaches the period, with nothing pending, makes the interrupt pending and restarts the count (R161). -/
theorem eventStep_utick_expires (hen : s.tmrEn = true) (hirq : s.irqPending = false)
    (h : s.tmrPeriod.toNat ≤ s.tmrElapsed.toNat + 1) :
    eventStep p .utick s = { s with tmrElapsed := 0, irqPending := true } := by
  rw [eventStep_enabled rfl, eventBody, utickEvent, if_pos hen, timerStep_expires h hirq]

/-- The microsecond that brings the count to the period is the expiry (R162). -/
theorem runEvents_uwait_expires {n : Nat} (hen : s.tmrEn = true) (hirq : s.irqPending = false) (h1 : 1 ≤ n)
    (h : s.tmrElapsed.toNat + n = s.tmrPeriod.toNat) :
    runEvents p (uwait n) s = { s with tmrElapsed := 0, irqPending := true } := by
  obtain ⟨m, rfl⟩ := Nat.exists_eq_add_of_le' h1
  have := s.tmrPeriod.isLt
  have hcount : (toWord (s.tmrElapsed.toNat + m)).toNat = s.tmrElapsed.toNat + m := toWord_toNat_of_lt (by omega)
  rw [uwait, List.replicate_succ', runEvents_append, ← uwait, runEvents_uwait_counts hen (by omega), runEvents, runEvents,
    eventStep_utick_expires (by exact hen) (by exact hirq) (by simp only [hcount]; omega)]

end Uwait

/-- Settles O52: `applyTempo` writes the period and writes or keeps the count, and from there the timer counts to it. -/
theorem restartDecidesTheNextExpiry : Obligations.RestartDecidesTheNextExpiry := by
  intro p bpm persist s _ _ period t
  have hperiod : t.tmrPeriod.toNat = period := by
    simp only [t, applyTempo_eq, toWord_periodOf_toNat, Config.kUs_eq, period]
  have hen : t.tmrEn = s.tmrEn := by simp only [t, applyTempo_eq]
  have hirq : t.irqPending = s.irqPending := by simp only [t, applyTempo_eq]
  have helapsed : t.tmrElapsed = if p.timerRestartOnApply then 0 else s.tmrElapsed := by simp only [t, applyTempo_eq]
  rw [← hperiod, ← hen, ← hirq]
  refine ⟨fun hr => ?_, fun hr => ?_⟩
  · have h0 : t.tmrElapsed = 0 := by rw [helapsed, if_pos hr]
    refine ⟨h0, fun hen hirq => ⟨fun n hn => ?_, fun h1 => ?_⟩⟩
    · rw [runEvents_uwait_counts hen (by simpa [h0] using hn)]
      simp [h0, toWord]
    · exact runEvents_uwait_expires hen hirq h1 (by simp [h0])
  · have hkept : t.tmrElapsed = s.tmrElapsed := by rw [helapsed, if_neg (by simp [hr])]
    rw [← hkept]
    exact ⟨rfl, fun hen hirq => ⟨fun n hn => runEvents_uwait_counts hen hn,
      fun hlt => runEvents_uwait_expires hen hirq (by omega) (by omega),
      fun hle => eventStep_utick_expires hen hirq (by omega)⟩⟩

end Sys2Proof.Machine
end

section
/-! PROOFS. The pulse clock (R160 to R167): what UTICK and ISR answer on this hardware, the beat, the bytes at the sink, and
the pulses of the eager schedule (R79). -/

namespace Sys2Proof.Machine

open Sys2Proof.Safety

/-! ## UTICK and the expiry -/

theorem exec_utick_of_tmrEn {s : State} (hen : s.tmrEn = true) : exec .utick s = .next (timerStep s) := by
  rw [exec_eq, eventStep_enabled rfl, eventBody, utickEvent, if_pos hen]

/-- Settles O18, by the three outcomes of the timer's step. -/
theorem utickCountsAndExpires : Obligations.UtickCountsAndExpires := by
  intro s hen
  rw [exec_utick_of_tmrEn hen]
  exact ⟨fun hlt => by rw [timerStep_counts hlt, toWord], fun hle hirq => by rw [timerStep_expires hle hirq],
    fun hle hirq => by rw [timerStep_overruns hle hirq, diagOverrun]⟩

/-- Settles O53: microseconds short of the period count, and the one that reaches it expires. -/
theorem expiryComesAfterOnePeriod : Obligations.ExpiryComesAfterOnePeriod := fun _ _ _ hen =>
  ⟨runEvents_uwait_counts hen, fun h1 h hirq => runEvents_uwait_expires hen hirq h1 h⟩

/-! ## ISR and the beat -/

/-- Settles O50, by what `ledUpdate` leaves in LED_ON. -/
theorem ledTestsInOrder : Obligations.LedTestsInOrder := by
  intro p c s
  rw [ledUpdate_eq]
  exact ⟨fun hoff => by rw [if_pos hoff], fun hne hon => by rw [if_neg hne, if_pos hon],
    fun hne hnz => by rw [if_neg hne, if_neg hnz]⟩

/-- The counter after ISR on this hardware (R164). -/
theorem nextPulse_hw_toNat (c : BitVec 5) : (nextPulse Config.hw c).toNat = (c.toNat + 1) % 24 :=
  nextPulse_toNat Config.hw c (by decide) (by decide)

/-- Everything ISR does on this hardware (R163 to R166). At most one of the two LED tests holds, so their order is free. -/
theorem isrEvent_hw (s : State) :
    isrEvent Config.hw s =
      { s with
        irqPending := false
        sinkTrace := s.sinkTrace ++ [0xF8]
        pulseCounter := nextPulse Config.hw s.pulseCounter
        ledOn := if (s.pulseCounter.toNat + 1) % 24 = 0 then true
          else if (s.pulseCounter.toNat + 1) % 24 = 4 then false else s.ledOn } := by
  rw [isrEvent_eq, nextPulse_hw_toNat, Config.hw_blinkDuration]
  by_cases h0 : (s.pulseCounter.toNat + 1) % 24 = 0 <;> simp [h0]

/-- Settles O19: an ISR with an interrupt pending is enabled, and runs its body. -/
theorem isrEmitsOnePulse : Obligations.IsrEmitsOnePulse := by
  intro s hirq
  rw [exec_eq, eventStep_enabled (i := .isr) hirq, eventBody, isrEvent_hw]
  rfl

theorem beatPhase_congr {s t : State} (hcounter : t.pulseCounter = s.pulseCounter) (hled : t.ledOn = s.ledOn)
    (hsink : t.sinkTrace = s.sinkTrace) (h : BeatPhase s) : BeatPhase t := by
  obtain ⟨h1, h2⟩ := h
  rw [← hcounter, ← hled, ← hsink] at *
  exact ⟨h1, h2⟩

/-- One more pulse starts a beat, ends the LED's part of it, or changes neither (R164, R166). -/
theorem beatPhase_isrEvent {s : State} (h : BeatPhase s) : BeatPhase (isrEvent Config.hw s) := by
  obtain ⟨hcounter, hled⟩ := h
  have hnext : (s.pulseCounter.toNat + 1) % 24 = (s.sinkTrace.length + 1) % 24 := by omega
  rw [isrEvent_hw, hnext]
  refine ⟨?_, ?_⟩
  · simpa [nextPulse_hw_toNat] using hnext
  · simp only [List.length_append, List.length_singleton, hled]
    split
    · exact (decide_eq_true (by omega)).symm
    · split
      · exact (decide_eq_false (by omega)).symm
      · exact decide_eq_decide.2 (by omega)

theorem beatPhase_eventBody {s : State} (h : BeatPhase s) (i : Instr) : BeatPhase (eventBody Config.hw i s) := by
  have frame := eventBody_frame Config.hw i s
  cases i with
  | isr => exact beatPhase_isrEvent h
  | _ =>
    exact beatPhase_congr (congrArg State.pulseCounter frame :) (congrArg State.ledOn frame :)
      (congrArg State.sinkTrace frame :) h

/-- Settles O30: ISR alone moves the beat, by one pulse and one byte together. -/
theorem stepKeepsTheBeatPhase : Obligations.StepKeepsTheBeatPhase := fun _ _ hs ht =>
  step_keeps (P := BeatPhase) (fun _ _ h => { h with }) (fun _ h => { h with })
    (fun i _ _ h => beatPhase_eventBody h i) hs ht

/-! ## The bytes at the sink -/

/-- What each event adds to SINK_TRACE: one clock byte for a handled interrupt outside debug mode (R165). -/
theorem eventStep_sinkTrace (p : Config.Params) (i : Instr) (s : State) :
    (eventStep p i s).sinkTrace = s.sinkTrace ++
      if i = .isr ∧ s.irqPending = true ∧ p.debugMode = false then [0xF8] else [] := by
  have frame := eventStep_frame p i s
  cases i with
  | isr =>
    obtain ⟨he, h⟩ | ⟨he, h⟩ := eventStep_cases p .isr s <;> rw [h] <;> rw [enabled] at he
    · rw [eventBody, isrEvent_eq]
      cases hd : p.debugMode <;> simp [he]
    · simp [he]
  | _ =>
    rw [if_neg (by simp), List.append_nil]
    exact (congrArg State.sinkTrace frame :)

theorem runEvents_sinkTrace_of_debugMode {p : Config.Params} (hd : p.debugMode = true) (is : List Instr) (s : State) :
    (runEvents p is s).sinkTrace = s.sinkTrace := by
  induction is generalizing s with
  | nil => rfl
  | cons i is ih => rw [runEvents, ih, eventStep_sinkTrace, if_neg (by simp [hd]), List.append_nil]

/-- Settles O51: each event by what it adds, a run in debug mode by induction on its events. -/
theorem clockBytesOnlyOutsideDebugMode : Obligations.ClockBytesOnlyOutsideDebugMode :=
  ⟨eventStep_sinkTrace, fun _ is s hd => runEvents_sinkTrace_of_debugMode hd is s⟩

/-! ## The pulses of the eager schedule -/

/-- An eager wait in two parts: the second starts where the first ends (R79). -/
theorem uwaitEager_add (p : Config.Params) (m n : Nat) (s : State) :
    uwaitEager p (m + n) s = uwaitEager p m s ++ uwaitEager p n (runEvents p (uwaitEager p m s) s) := by
  induction m generalizing s with
  | zero => rw [Nat.zero_add]; rfl
  | succ m ih =>
    rw [Nat.succ_add]
    cases hirq : (eventStep p .utick s).irqPending
    · rw [uwaitEager_succ_quiet _ hirq, uwaitEager_succ_quiet _ hirq, ih]
      rfl
    · rw [uwaitEager_succ_pending _ hirq, uwaitEager_succ_pending _ hirq, ih]
      rfl

/-- A microsecond short of the period only advances the count (R161). -/
theorem eventStep_utick_counts {p : Config.Params} {s : State} (hen : s.tmrEn = true)
    (h : s.tmrElapsed.toNat + 1 < s.tmrPeriod.toNat) :
    eventStep p .utick s = { s with tmrElapsed := toWord (s.tmrElapsed.toNat + 1) } := by
  rw [eventStep_enabled rfl, eventBody, utickEvent, if_pos hen, timerStep_counts h]

/-- Up to the expiry an eager wait is a plain one with the handler after it (R79, R162). -/
theorem uwaitEager_to_expiry {p : Config.Params} {s : State} (n : Nat) (hen : s.tmrEn = true)
    (hirq : s.irqPending = false) (h : s.tmrElapsed.toNat + (n + 1) = s.tmrPeriod.toNat) :
    uwaitEager p (n + 1) s = uwait (n + 1) ++ [.isr] := by
  induction n generalizing s with
  | zero =>
    rw [uwaitEager_succ_pending 0 (by rw [eventStep_utick_expires hen hirq (by omega)])]
    rfl
  | succ n ih =>
    have := s.tmrPeriod.isLt
    have hcount : (toWord (s.tmrElapsed.toNat + 1)).toNat = s.tmrElapsed.toNat + 1 := toWord_toNat_of_lt (by omega)
    have hstep := eventStep_utick_counts (p := p) hen (by omega)
    rw [uwaitEager_succ_quiet (n + 1) (by rw [hstep]; exact hirq), hstep,
      ih (by exact hen) (by exact hirq) (by simp only [hcount]; omega)]
    rfl

/-- One period of the eager schedule from the count 0 is the handler, and nothing else (R162, R163). -/
theorem runEvents_uwaitEager_period {p : Config.Params} {s : State} (hen : s.tmrEn = true) (hirq : s.irqPending = false)
    (h0 : s.tmrElapsed = 0) (h1 : 1 ≤ s.tmrPeriod.toNat) :
    runEvents p (uwaitEager p s.tmrPeriod.toNat s) s = isrEvent p { s with tmrElapsed := 0, irqPending := true } := by
  have hreach : s.tmrElapsed.toNat + s.tmrPeriod.toNat = s.tmrPeriod.toNat := by simp [h0]
  obtain ⟨n, hn⟩ := Nat.exists_eq_add_of_le' h1
  have hwait : uwaitEager p s.tmrPeriod.toNat s = uwait s.tmrPeriod.toNat ++ [.isr] := by
    rw [hn]
    exact uwaitEager_to_expiry n hen hirq (by rw [← hn, hreach])
  rw [hwait, runEvents_append, runEvents_uwait_expires hen hirq h1 hreach]
  rfl

/-- One period of the eager schedule on this hardware: one byte, one pulse, and the timer as it was (R162 to R165). -/
theorem eagerPeriod_hw {s : State} (hen : s.tmrEn = true) (hirq : s.irqPending = false) (h0 : s.tmrElapsed = 0)
    (h1 : 1 ≤ s.tmrPeriod.toNat) :
    let t := runEvents Config.hw (uwaitEager Config.hw s.tmrPeriod.toNat s) s
    t.tmrEn = true ∧ t.irqPending = false ∧ t.tmrElapsed = 0 ∧ t.tmrPeriod = s.tmrPeriod ∧
    t.sinkTrace = s.sinkTrace ++ [0xF8] ∧ t.pulseCounter.toNat = (s.pulseCounter.toNat + 1) % 24 := by
  rw [runEvents_uwaitEager_period hen hirq h0 h1, isrEvent_hw]
  exact ⟨hen, rfl, rfl, rfl, rfl, nextPulse_hw_toNat _⟩

/-- Settles O55, by induction on the periods: each is one handler, after which the premises hold again. -/
theorem eagerScheduleEmitsOnePulsePerPeriod : Obligations.EagerScheduleEmitsOnePulsePerPeriod := by
  intro s k hen hirq h0 h1 hc
  induction k generalizing s with
  | zero =>
    rw [Nat.zero_mul]
    exact ⟨(List.append_nil _).symm, (Nat.mod_eq_of_lt hc).symm, h0, hirq⟩
  | succ k ih =>
    rw [Nat.succ_mul, Nat.add_comm, uwaitEager_add, runEvents_append]
    obtain ⟨hent, hirqt, h0t, hperiod, hsink, hcounter⟩ := eagerPeriod_hw hen hirq h0 h1
    rw [← hperiod] at h1
    obtain ⟨hsinks, hcounters, hend⟩ := ih _ hent hirqt h0t h1 (by omega)
    rw [hperiod, hsink] at hsinks
    rw [hperiod, hcounter] at hcounters
    rw [hperiod] at hend
    refine ⟨?_, ?_, hend⟩
    · rw [hsinks, List.append_assoc]
      rfl
    · omega

end Sys2Proof.Machine
end

section
/-! PROOFS. The boot-time load (R190 to R193): what is loaded and reported, the two outcomes of BOOT on this hardware, how
long its tempo stays, and that the block is quiet before it. -/

namespace Sys2Proof.Machine

open Sys2Proof.Safety

/-! ## What is loaded -/

/-- The check of R191, on the stored value as a number (R52). -/
theorem inWindow_persistedBpm_iff (p : Config.Params) (s : State) :
    inWindow p s.persistedBpm = true ↔ p.minimumBpm ≤ storedBpm s ∧ storedBpm s ≤ p.maximumBpm := by
  rw [inWindow_iff, persistedBpm_eq_storedBpm]

theorem inWindow_persistedBpm_eq_false {p : Config.Params} {s : State}
    (h : storedBpm s < p.minimumBpm ∨ p.maximumBpm < storedBpm s) : inWindow p s.persistedBpm = false := by
  rw [← Bool.not_eq_true, inWindow_persistedBpm_iff]
  omega

theorem persistedBpm_setWidth (s : State) : s.persistedBpm.setWidth 32 = toWord (storedBpm s) :=
  BitVec.eq_of_toNat_eq (by rw [BitVec.toNat_setWidth, persistedBpm_eq_storedBpm, toWord_toNat])

/-- A stored value in the window is loaded as it is (R191). -/
theorem loadedBpm_of_inWindow {p : Config.Params} {s : State} (he : p.persistEnable = true)
    (h : inWindow p s.persistedBpm = true) : loadedBpm p s = toWord (storedBpm s) := by
  rw [loadedBpm, he, h, Bool.and_self, if_pos rfl, persistedBpm_setWidth]

/-- Without persistence, or with a stored value outside the window, the default is loaded (R191). -/
theorem loadedBpm_default {p : Config.Params} {s : State} (h : (p.persistEnable && inWindow p s.persistedBpm) = false) :
    loadedBpm p s = toWord p.defaultBpm := by
  rw [loadedBpm, h, if_neg Bool.false_ne_true]

/-- Settles O48: the stored value where it is enabled and in the window, and the default everywhere else. -/
theorem loadPersistedValidates : Obligations.LoadPersistedValidates := by
  intro p s ⟨_, _, _, _, _, _, hmax, hcap, _⟩
  have hdefault : (toWord p.defaultBpm).toNat = p.defaultBpm := toWord_toNat_of_lt (by omega)
  refine ⟨fun he hlo hhi => ?_, fun he hout => ?_, fun he => ?_⟩
  · have hwin := (inWindow_persistedBpm_iff p s).2 ⟨hlo, hhi⟩
    rw [loadedBpm_of_inWindow he hwin, toWord_toNat_of_lt (by omega)]
    exact ⟨rfl, by simp [loadDiag, hwin]⟩
  · have hwin := inWindow_persistedBpm_eq_false hout
    rw [loadedBpm_default (by simp [hwin]), hdefault]
    exact ⟨rfl, by simp [loadDiag, he, hwin, State.emitDiag, diagBadPersisted]⟩
  · rw [loadedBpm_default (by simp [he]), hdefault]
    exact ⟨rfl, by simp [loadDiag, he]⟩

/-! ## BOOT on this hardware -/

theorem exec_boot_of_not_booted {s : State} (hb : s.booted = false) : exec .boot s = .next (bootEvent Config.hw s) := by
  rw [exec_eq, eventStep_enabled (by simp [enabled, hb]), eventBody]

/-- Bits 15..8 of the stored value are the byte of slot 0 (R52). -/
theorem storedBpm_msb (s : State) : BitVec.ofNat 8 (storedBpm s / 256) = s.storeByte .msb := by
  have := (s.storeByte .lsb).isLt
  have hdiv : storedBpm s / 256 = (s.storeByte .msb).toNat := by unfold storedBpm; omega
  rw [hdiv, BitVec.ofNat_toNat, BitVec.setWidth_eq]

/-- Bits 7..0 of the stored value are the byte of slot 1 (R52). -/
theorem storedBpm_lsb (s : State) : BitVec.ofNat 8 (storedBpm s) = s.storeByte .lsb := by
  apply BitVec.eq_of_toNat_eq
  have := (s.storeByte .lsb).isLt
  rw [BitVec.toNat_ofNat, storedBpm]
  omega

/-- Settles O10: the stored value is loaded, and the bytes of the write are the stored ones. -/
theorem bootAppliesAStoredTempo : Obligations.BootAppliesAStoredTempo := by
  intro s hb hlo hhi
  have hwin : inWindow Config.hw s.persistedBpm = true := (inWindow_persistedBpm_iff _ s).2 ⟨hlo, hhi⟩
  have hlt : storedBpm s < 2 ^ 32 := by omega
  rw [exec_boot_of_not_booted hb, bootEvent_eq, loadedBpm_of_inWindow rfl hwin, toWord_msb hlt, toWord_lsb hlt,
    toWord_toNat_of_lt hlt, storedBpm_msb, storedBpm_lsb, hwin]
  simp [periodOf, toWord]

/-- Settles O11: the default is loaded, whose period and bytes are evaluated. -/
theorem bootReplacesAnInvalidTempo : Obligations.BootReplacesAnInvalidTempo := by
  intro s hb hout
  have hwin : inWindow Config.hw s.persistedBpm = false := inWindow_persistedBpm_eq_false hout
  rw [exec_boot_of_not_booted hb, bootEvent_eq, loadedBpm_default (by simp [hwin]), hwin]
  rfl

/-! ## How long the tempo of BOOT stays -/

/-- A TAP that does not recompute, or whose average is 0, leaves the tempo and the period alone (R106, R131). -/
theorem tapEvent_keeps_tempo_of_not_applied {s : State} {now : Word}
    (h : s.tapCount ≠ 3 ∨ Stale s now ∨ averageTo s now = 0) :
    (tapEvent Config.hw now s).bpm = s.bpm ∧ (tapEvent Config.hw now s).tmrPeriod = s.tmrPeriod := by
  by_cases hs : Stale s now
  · rw [tapEvent_of_stale hs]
    exact ⟨rfl, rfl⟩
  by_cases h3 : s.tapCount = 3
  · have havg : averageTo s now = 0 := (h.resolve_left (absurd h3)).resolve_left hs
    rw [tapEvent_fourth_rejected hs h3 (.inl havg)]
    exact ⟨rfl, rfl⟩
  · obtain ⟨hbpm, hperiod, -⟩ := tapEvent_keeps_tempo Config.hw now h3
    exact ⟨hbpm, hperiod⟩

/-- Settles O37: what BOOT loads is in the window; afterwards BOOT is refused and only TAP writes the tempo. -/
theorem bootTempoStaysUntilARecomputation : Obligations.BootTempoStaysUntilARecomputation := by
  constructor
  · intro s t hb ht
    rw [exec_boot_of_not_booted hb, Host.Outcome.next.injEq] at ht
    obtain ⟨hlo, hhi⟩ := loadedBpm_inWindow Config.hw_legal s
    have hperiod := periodOf_hw_range hlo hhi
    rw [← ht, bootEvent_eq, toWord_periodOf_toNat]
    exact ⟨hlo, hhi, hperiod⟩
  · intro i s t hb ht hrecompute
    obtain rfl := exec_next_iff.1 ht
    have frame := eventStep_frame Config.hw i s
    cases i with
    | boot =>
      rw [eventStep_refused (by simp [enabled, hb])]
      exact ⟨rfl, rfl⟩
    | tap now =>
      rw [eventStep_tap_of_booted hb]
      exact tapEvent_keeps_tempo_of_not_applied (hrecompute now rfl)
    | _ => exact ⟨(congrArg State.bpm frame :), (congrArg State.tmrPeriod frame :)⟩

/-! ## Before BOOT -/

theorem quietBeforeBoot_of_booted {s : State} (hb : s.booted = true) : QuietBeforeBoot s := by
  constructor <;> simp [hb]

/-- No event takes BOOTED back (R33). -/
theorem eventBody_booted (p : Config.Params) (i : Instr) {s : State} (hb : s.booted = true) :
    (eventBody p i s).booted = true := by
  have frame := eventBody_frame p i s
  cases i with
  | boot => rfl
  | _ => exact (congrArg State.booted frame :).trans hb

/-- Before BOOT the events enabled are BOOT itself and UTICK, which finds the timer off (R61, R77, R160). -/
theorem quietBeforeBoot_eventBody {i : Instr} {s : State} (he : enabled i s = true) (h : QuietBeforeBoot s) :
    QuietBeforeBoot (eventBody Config.hw i s) := by
  cases hb : s.booted
  case true => exact quietBeforeBoot_of_booted (eventBody_booted _ i hb)
  case false =>
    cases i with
    | boot => exact quietBeforeBoot_of_booted rfl
    | tick now | tap now => exact absurd he (by simp [enabled, hb])
    | utick =>
      have hidle : utickEvent Config.hw s = s := by rw [utickEvent, h.timerOff hb, if_neg Bool.false_ne_true]
      rwa [eventBody, hidle]
    | isr => exact absurd he (by simp [enabled, h.nothingPending hb])

/-- Settles O31: no enabled event breaks the quiet before BOOT, and neither does taking a word or a refusal. -/
theorem nothingIsEmittedBeforeBoot : Obligations.NothingIsEmittedBeforeBoot := fun _ _ hs ht =>
  step_keeps (P := QuietBeforeBoot) (fun _ _ h => { h with }) (fun _ h => { h with })
    (fun _ _ he h => quietBeforeBoot_eventBody he h) hs ht

end Sys2Proof.Machine
end

section
/-! PROOFS. Exceptions (R200 to R203): no event traps, faults or stops, and which diagnostic codes one event reports. -/

namespace Sys2Proof.Machine

open Sys2Proof.Safety

/-- Settles O8: `eventStep` gives the next state of every event in every state. -/
theorem everyEventHasANextState : Obligations.EveryEventHasANextState := fun i s => ⟨_, exec_eq i s⟩

/-! ## The diagnostic trace only grows (R40) -/

theorem eventBody_diagTrace_prefix (p : Config.Params) (i : Instr) (s : State) :
    s.diagTrace <+: (eventBody p i s).diagTrace := by
  cases i with
  | boot =>
    rw [eventBody, bootEvent_eq]
    exact List.prefix_append _ _
  | tick now =>
    rw [eventBody, tickEvent, checkTimeout_eq]
    split
    · exact List.prefix_append _ _
    · exact List.prefix_rfl
  | tap now =>
    obtain ⟨-, h⟩ | ⟨-, -, h⟩ | ⟨-, -, h⟩ | ⟨-, -, h⟩ | ⟨-, -, -, h⟩ | ⟨-, -, -, h⟩ | ⟨-, -, h⟩ :=
      tapEvent_cases p now s <;> rw [eventBody, h]
    case inl | inr.inr.inr.inr.inl => exact List.prefix_append _ _
    case inr.inr.inr.inr.inr.inl => rw [clearTaps_applyTempo_eq]
  | utick =>
    obtain ⟨-, h⟩ | ⟨-, -, h⟩ | ⟨-, -, -, h⟩ | ⟨-, -, -, h⟩ := utickEvent_cases p s <;> rw [eventBody, h]
    exact List.prefix_append _ _
  | isr => rw [eventBody, isrEvent_eq]

theorem eventStep_diagTrace_prefix (p : Config.Params) (i : Instr) (s : State) :
    s.diagTrace <+: (eventStep p i s).diagTrace := by
  obtain ⟨-, h⟩ | ⟨-, h⟩ := eventStep_cases p i s <;> rw [h]
  exact eventBody_diagTrace_prefix p i s

/-- The codes at the diagnostic port are all that an event adds to DIAG_TRACE (R201, R214). -/
theorem eventStep_diagTrace (p : Config.Params) (i : Instr) (s : State) :
    (eventStep p i s).diagTrace = s.diagTrace ++ diagOut s (eventStep p i s) :=
  (List.prefix_iff_eq_append.1 (eventStep_diagTrace_prefix p i s)).symm

/-! ## The codes of one event -/

/-- A TAP reports a timeout or a rejected fourth tap, never both, and a timeout where the sequence is stale (R103). -/
theorem diagOut_tapEvent_cases (now : Word) (s : State) :
    (diagOut s (tapEvent Config.hw now s) = [] ∨ diagOut s (tapEvent Config.hw now s) = [1] ∨
      diagOut s (tapEvent Config.hw now s) = [2]) ∧
    (Stale s now → diagOut s (tapEvent Config.hw now s) = [1]) := by
  obtain ⟨-, -, hout⟩ := tapEvent_out now s
  rw [hout]
  by_cases hs : Stale s now
  · rw [if_pos hs]
    exact ⟨.inr (.inl rfl), fun _ => rfl⟩
  · rw [if_neg hs]
    exact ⟨(ite_eq_or_eq _ _ _).elim (fun h => .inr (.inr h)) .inl, fun h => absurd h hs⟩

/-- Settles O34: a refused event puts nothing out, and an enabled one what its body reports. -/
theorem eachEventReportsAtMostOneOutcome : Obligations.EachEventReportsAtMostOneOutcome := by
  intro i s t ht
  obtain rfl := exec_next_iff.1 ht
  refine ⟨diagOut s (eventStep Config.hw i s), eventStep_diagTrace Config.hw i s, ?_⟩
  cases he : enabled i s with
  | false =>
    obtain ⟨-, -, hout⟩ := refused_out s
    rw [eventStep_refused he, hout]
    cases i <;> simp [he]
  | true =>
    rw [eventStep_enabled he]
    refine ⟨fun h => absurd h (by decide), ?_⟩
    cases i with
    | boot =>
      obtain ⟨-, -, hout⟩ := bootEvent_out s
      exact hout ▸ ite_eq_or_eq _ _ _
    | tick now =>
      obtain ⟨-, -, hout⟩ := tickEvent_out now s
      exact hout ▸ (ite_eq_or_eq _ _ _).symm
    | tap now =>
      obtain ⟨hcodes, hstale⟩ := diagOut_tapEvent_cases now s
      exact ⟨hcodes, fun _ => hstale⟩
    | utick =>
      obtain ⟨-, -, hout⟩ := utickEvent_out s
      exact hout ▸ (ite_eq_or_eq _ _ _).symm
    | isr =>
      obtain ⟨-, -, hout⟩ := isrEvent_out s
      exact hout

end Sys2Proof.Machine
end

section
/-! PROOFS. Reset and hazards: a further power-on (R232), the bytes the environment presents (R231), polls between two taps
(R237), and the end of the trace (R241). -/

namespace Sys2Proof.Machine

open Sys2Proof.Safety

/-! ## Polls between two taps -/

theorem tickEvent_of_stale {s : State} {k : Word} (hs : Stale s k) :
    tickEvent Config.hw k s = { s with tapCount := 0, diagTrace := s.diagTrace ++ [1] } := by
  rw [tickEvent, checkTimeout_cleared ((timedOut_hw_iff s k).2 hs), diagTimeout]

theorem tickEvent_of_not_stale {s : State} {k : Word} (hs : ¬ Stale s k) : tickEvent Config.hw k s = s :=
  checkTimeout_kept (Bool.eq_false_of_not_eq_true (mt (timedOut_hw_iff s k).1 hs))

/-- A TICK clears nothing that the TAP after it would not clear: the TAP is tap 1 of a new sequence either way, and the code
1 is emitted once, by the TICK or by the TAP (R102, R104, R106). -/
theorem runEvents_ticks_tap {polls : List Word} {now : Word} {s : State} (hb : s.booted = true)
    (h : ∀ k ∈ polls, Stale s k → Stale s now) :
    runEvents Config.hw (polls.map Instr.tick ++ [.tap now]) s = tapEvent Config.hw now s := by
  induction polls generalizing s with
  | nil => exact eventStep_tap_of_booted hb now
  | cons k ks ih =>
    obtain ⟨hk, hks⟩ := List.forall_mem_cons.1 h
    rw [List.map_cons, List.cons_append, runEvents, eventStep_enabled (i := .tick k) hb, eventBody]
    by_cases hs : Stale s k
    · rw [tickEvent_of_stale hs, ih (by exact hb) fun _ _ ⟨hpos, _, _⟩ => absurd hpos (Nat.lt_irrefl 0),
        tapEvent_first rfl, tapEvent_of_stale (hk hs)]
    · rw [tickEvent_of_not_stale hs, ih hb hks]

/-- Settles O45: a sequence stale for a TICK no later than the TAP is stale for the TAP. -/
theorem pollCadenceDoesNotMatter : Obligations.PollCadenceDoesNotMatter := by
  intro s polls now hb hle
  have hstale : ∀ k ∈ polls, Stale s k → Stale s now := fun k hk ⟨hpos, hlt, hgap⟩ =>
    ⟨hpos, hlt, hgap.trans_le (hle hpos hlt k hk)⟩
  exact (runEvents_ticks_tap hb hstale).trans (eventStep_tap_of_booted hb now).symm

/-! ## The trace, the power-on and the store -/

/-- Settles O6: with no word left nothing is fetched. -/
theorem stepStopsWhenTheTraceEnds : Obligations.StepStopsWhenTheTraceEnds := by
  intro s h
  rw [step, fetchEvent, h]

/-- A store in which no byte is listed presents the draw of the power cycle (R41). -/
theorem storeByte_of_pstore_nil {s : State} (h : s.pstore = []) (slot : Slot) :
    s.storeByte slot = Config.pstoreDraw s.powerCycle slot.addr := by
  rw [State.storeByte, h, Memory.read]

/-- Settles O21: a power-on is the reset state but for the model's own fields, and lists no byte of the store. -/
theorem powerOnKeepsNothing : Obligations.PowerOnKeepsNothing := fun _ =>
  ⟨rfl, rfl, storeByte_of_pstore_nil rfl⟩

/-- Settles O56, by reading after writing in each slot. -/
theorem presentedBytesAreRead : Obligations.PresentedBytesAreRead := fun s m l =>
  ⟨s.withStore_storeByte_msb m l, s.withStore_storeByte_lsb m l, s.withStore_wf m l⟩

end Sys2Proof.Machine
end
